-- ==== Sys2Proof/Word.lean ====
section
/-! DEFINITION. The word types of the block: one bus transfer, a CPU address, a segment value, a transaction word
(00_scope.md rule R8: `DATA_BITS` = 8, `ADDR_BITS` = 16, `MASK_BITS` = 16, `BANK_SEL_BITS` = 8; 30_encoding.md rule R101:
32-bit transaction words). -/

namespace Sys2Proof

/-- One bus transfer, `DATA_BITS` = 8 (R8); also the bank-select value, `BANK_SEL_BITS` = 8 (R8). -/
abbrev Byte := BitVec 8

/-- A CPU address, `ADDR_BITS` = 16 (R8, R70); also a RAM offset and the protection mask, `MASK_BITS` = 16 (R8). -/
abbrev Addr := BitVec 16

/-- A transaction word (R101). -/
abbrev Word := BitVec 32

end Sys2Proof
end

