-- ==== Sys2Proof/Config.lean ====
section
/-! DEFINITION. What one configuration of the block fixes (00_scope.md rule R8), as plain data, and the free values: what
the spec leaves open at each use (00_scope.md rule R14, 70_reset_and_hazards.md rule R281), as constants with no body.
What is computed from a configuration stands in Machine/Params.lean. -/

namespace Sys2Proof

/-- `SOUND_VARIANT` (R3, R8): the sound-link variant fixed at construction. -/
inductive SoundVariant where
  | primary
  | legacy
  deriving DecidableEq, Repr

/-- A run of `len` equal bytes of the ROM image: the image is held as a list of runs (log 16). -/
structure Run where
  len  : Nat
  byte : Byte
  deriving DecidableEq, Repr

/-- The configuration parameters of R8, fixed for the lifetime of a configuration. -/
structure Config where
  /-- `FREE_BASE`, first address of free RAM; equals `RAM_SIZE`. -/
  freeBase : Nat
  /-- `IO_BASE`, first address of the I/O-controller window. -/
  ioBase : Nat
  /-- `BANK_BASE`, first address of the banked ROM window. -/
  bankBase : Nat
  /-- `ROM_BASE`, first address of the fixed high ROM. -/
  romBase : Nat
  /-- `BANK_SIZE`, bytes per bank slice. -/
  bankSize : Nat
  /-- `BANK_COUNT`, number of slices that CONFIGURE creates. -/
  bankCount : Nat
  /-- `BASE_OFFSET`, image offset of slice 0. -/
  baseOffset : Nat
  /-- `IMAGE`, the ROM image; `IMAGE_SIZE` is its length. -/
  image : List Run
  /-- `FIXED_ROM_OFFSET`, image offset that address `ROM_BASE` reads. -/
  fixedRomOffset : Nat
  /-- `DIGIT_COUNT`, number of display digit positions. -/
  digitCount : Nat
  /-- `DIGIT_SOURCE`: element `i` is the controller index fetched for digit position `i`. -/
  digitSource : List Nat
  /-- `SOUND_VARIANT`. -/
  soundVariant : SoundVariant
  /-- `SOUND_PRESENT`: a coprocessor of the variant's kind is configured. -/
  soundPresent : Bool
  /-- `REPLY_GATES_IRQ`; only `false` is well formed (WF8). -/
  replyGatesIrq : Bool
  /-- Which timer was registered first, and so fires first when both are due at one instant (20_memory.md rule R84: "timer
  callbacks registered first fire first"; the spec does not say which). DESIGN CHOICE: a parameter, log 10. -/
  frameTimerFirst : Bool
  deriving DecidableEq, Repr

/-- The free values: the `k`-th value the model draws, of width `w`. "any value of the stated width, free at each query, under
no law" (R14), and the draws of RESET (R281). No body: nothing can be proved of it (log 5). -/
opaque Config.freeValue (w k : Nat) : BitVec w

/-- The byte of free RAM at offset `o` that nothing has written since draw `epoch` of the whole `FREE` array (10_state.md rule
R31: "each byte any value"). No body (log 6). -/
opaque Config.freeRam (epoch o : Nat) : Byte

end Sys2Proof
end

