-- ==== Sys2Proof/Syntax.lean ====
section
/-! DEFINITION. The transactions of the block: one constructor per row of spec/opcode_table.json (30_encoding.md rules R102 and
R104), the regions of the CPU address space (20_memory.md rule R71) and the decoder's verdict (30_encoding.md rules R105 and
R106). -/

namespace Sys2Proof

/-- The five regions of the CPU address space, from the lowest address to the highest (R71). -/
inductive Region where
  | ram
  | free
  | io
  | bank
  | rom
  deriving DecidableEq, Repr

/-- The rows of the opcode table. The fourteen transactions of R102 are what a word decodes to (R106). `busReadRam` to
`busReadRom` and `busWriteRam` to `busWriteRom` are the table's region sub-rows of BUS_READ and BUS_WRITE (R104; log 11), and
`reservedE`, `reservedF` its two reserved rows (R105; log 12). -/
inductive Instr where
  | busRead (addr : Addr)
  | busReadRam (addr : Addr)
  | busReadFree (addr : Addr)
  | busReadIo (addr : Addr)
  | busReadBank (addr : Addr)
  | busReadRom (addr : Addr)
  | busWrite (addr : Addr) (data : Byte)
  | busWriteRam (addr : Addr) (data : Byte)
  | busWriteFree (addr : Addr) (data : Byte)
  | busWriteIo (addr : Addr) (data : Byte)
  | busWriteBank (addr : Addr) (data : Byte)
  | busWriteRom (addr : Addr) (data : Byte)
  | bankSelect (data : Byte)
  | irqClear
  | firqClear
  | frameTick
  | irqTick
  | sndCtrlRead
  | sndCtrlWrite (data : Byte)
  | sndDataRead
  | sndDataWrite (data : Byte)
  | sndStrobeWrite (data : Byte)
  | sndReply
  | reset
  | reservedE (rest : BitVec 28)
  | reservedF (rest : BitVec 28)
  deriving DecidableEq, Repr

/-- The decoder's answer for a word: one of the fourteen transactions, or the verdict `refuse ReservedEncoding` (R105, R106). -/
inductive Verdict where
  | decoded (i : Instr)
  | reservedEncoding
  deriving DecidableEq, Repr

end Sys2Proof
end

