-- ==== Sys2Proof/Machine/Params.lean ====
section
/-! DEFINITION. What is computed from a configuration: the derived parameters (00_scope.md rule R9), well-formedness WF1 to WF9
(R10), the ROM image's bytes, the sound case (43_sound_bridge.md rule R190), the timer periods (42_timers.md rule R173), and
the reference configuration REF (R11) with the test image IMG-A (95_test_vectors.md). -/

namespace Sys2Proof

/-! ## Fixed rates -/

/-- `FRAME_HZ` (R8): "fixed 60 Hz". -/
def frameHz : Nat := 60

/-- `IRQ_HZ` (R8, decision D18): "fixed ≈976 Hz", taken as exactly 976. -/
def irqHz : Nat := 976

/-- The units of time in one second: the unit is 1/(`FRAME_HZ` * `IRQ_HZ`) s, so that both periods are whole (log 9). -/
def unitsPerSecond : Nat := frameHz * irqHz

/-- The frame timer's period, 1/`FRAME_HZ` s, in units (R173). -/
def framePeriod : Nat := irqHz

/-- The periodic-interrupt timer's period, 1/`IRQ_HZ` s, in units (R173). -/
def irqPeriod : Nat := frameHz

/-! ## The ROM image -/

/-- The bytes of a run list. -/
def runsSize : List Run → Nat
  | [] => 0
  | r :: rs => r.len + runsSize rs

/-- Byte `i` of a run list, `none` beyond its end. -/
def runsByte : List Run → Nat → Option Byte
  | [], _ => none
  | r :: rs, i => if i < r.len then some r.byte else runsByte rs (i - r.len)

/-- `IMAGE_SIZE` (R8). -/
def Config.imageSize (c : Config) : Nat := runsSize c.image

/-- `IMAGE[i]` for `0 <= i < IMAGE_SIZE` (R13, 20_memory.md rule R73), `none` outside. -/
def Config.imageByte (c : Config) (i : Nat) : Option Byte := runsByte c.image i

/-! ## Derived parameters (R9) -/

def Config.ramSize (c : Config) : Nat := c.freeBase
def Config.freeSize (c : Config) : Nat := c.ioBase - c.freeBase
def Config.ioSize (c : Config) : Nat := c.bankBase - c.ioBase
def Config.windowSize (c : Config) : Nat := c.romBase - c.bankBase
def Config.romSize (c : Config) : Nat := 2 ^ 16 - c.romBase

/-- `BANK_MASK` (R9): `(IMAGE_SIZE - BASE_OFFSET) div BANK_SIZE - 1`. -/
def Config.bankMask (c : Config) : Nat := (c.imageSize - c.baseOffset) / c.bankSize - 1

/-! ## Well-formedness (R10) -/

def Config.wf1 (c : Config) : Bool :=
  decide (0 < c.freeBase ∧ c.freeBase < c.ioBase ∧ c.ioBase < c.bankBase ∧ c.bankBase < c.romBase ∧ c.romBase < 2 ^ 16)
def Config.wf2 (c : Config) : Bool := c.windowSize == c.bankSize
def Config.wf3 (c : Config) : Bool := decide (0 < c.bankSize ∧ c.baseOffset + c.bankSize ≤ c.imageSize)
def Config.wf4 (c : Config) : Bool := decide (c.bankMask < c.bankCount)
def Config.wf5 (c : Config) : Bool := decide (c.baseOffset + (c.bankMask + 1) * c.bankSize ≤ c.imageSize)
def Config.wf6 (c : Config) : Bool := decide (c.fixedRomOffset + c.romSize ≤ c.imageSize)
def Config.wf7 (c : Config) : Bool := decide (c.ramSize ≤ 2 ^ 16)
def Config.wf8 (c : Config) : Bool := !c.replyGatesIrq
def Config.wf9 (c : Config) : Bool := decide (c.digitCount ≤ c.digitSource.length)

/-- A configuration is well formed when WF1 to WF9 all hold (R10). -/
def Config.wf (c : Config) : Bool :=
  c.wf1 && c.wf2 && c.wf3 && c.wf4 && c.wf5 && c.wf6 && c.wf7 && c.wf8 && c.wf9

/-! ## The sound case -/

/-- The three cases of the pair (`SOUND_VARIANT`, `SOUND_PRESENT`): P, L and N of R190. -/
inductive SoundCase where
  | primary
  | legacy
  | absent
  deriving DecidableEq, Repr

def Config.soundCase (c : Config) : SoundCase :=
  if c.soundPresent then
    match c.soundVariant with
    | .primary => .primary
    | .legacy => .legacy
  else .absent

/-! ## Digit sources -/

/-- `DIGIT_SOURCE(0)` to `DIGIT_SOURCE(DIGIT_COUNT - 1)`, in increasing order of position (R170, decision D11). -/
def Config.digitQueries (c : Config) : List Nat := c.digitSource.take c.digitCount

/-! ## The reference configuration -/

/-- IMG-A (95_test_vectors.md): `IMAGE[i] = (i >> 14) & 0xFF` for `n` slices of 0x4000 bytes. -/
def imgA (n : Nat) : List Run := (List.range n).map fun s => ⟨0x4000, BitVec.ofNat 8 s⟩

/-- REF (R11) with the test image IMG-A and case P. DESIGN CHOICE, log 2: every one of these parameters is OPEN in the spec, and
no rule depends on REF. -/
def Config.ref : Config where
  freeBase := 0x3000
  ioBase := 0x3FB0
  bankBase := 0x4000
  romBase := 0x8000
  bankSize := 0x4000
  bankCount := 32
  baseOffset := 0x10000
  image := imgA 36
  fixedRomOffset := 0x88000
  digitCount := 32
  digitSource := List.range 32
  soundVariant := .primary
  soundPresent := true
  replyGatesIrq := false
  frameTimerFirst := true

end Sys2Proof
end

