-- ==== Sys2Proof/Decode.lean ====
section
/-! DEFINITION. The transaction decoder, total on 32-bit words (30_encoding.md rules R101 to R106), the encoder, the address
decoder (44_bus_router.md rule R220), and the textual syntax (30_encoding.md rule R108). -/

namespace Sys2Proof

/-! ## Fields (R101, R103) -/

/-- `OP`, bits 31:28. -/
def opField (w : Word) : BitVec 4 := w.extractLsb' 28 4

/-- `RSV`, bits 27:24. -/
def rsvField (w : Word) : BitVec 4 := w.extractLsb' 24 4

/-- `ADDR`, bits 23:8. -/
def addrField (w : Word) : Addr := w.extractLsb' 8 16

/-- `DATA`, bits 7:0. -/
def dataField (w : Word) : Byte := w.extractLsb' 0 8

/-- A word with the given fields and `RSV` = 0 (R101). -/
def txnWord (op : BitVec 4) (addr : Addr) (data : Byte) : Word := op ++ 0#4 ++ addr ++ data

/-! ## Decoding -/

/-- A transaction whose word must have `DATA` = 0 (R105). -/
def withAddrOnly (w : Word) (i : Instr) : Verdict :=
  if dataField w = 0 then .decoded i else .reservedEncoding

/-- A transaction whose word must have `ADDR` = 0 (R105). -/
def withDataOnly (w : Word) (i : Instr) : Verdict :=
  if addrField w = 0 then .decoded i else .reservedEncoding

/-- A transaction whose word must have `ADDR` = 0 and `DATA` = 0 (R105). -/
def withNoOperand (w : Word) (i : Instr) : Verdict :=
  if addrField w = 0 ∧ dataField w = 0 then .decoded i else .reservedEncoding

/-- The decoder (R102, R105, R106). -/
def decode (w : Word) : Verdict :=
  if rsvField w = 0 then
    match (opField w).toNat with
    | 0x0 => withAddrOnly w (.busRead (addrField w))
    | 0x1 => .decoded (.busWrite (addrField w) (dataField w))
    | 0x2 => withDataOnly w (.bankSelect (dataField w))
    | 0x3 => withNoOperand w .irqClear
    | 0x4 => withNoOperand w .firqClear
    | 0x5 => withNoOperand w .frameTick
    | 0x6 => withNoOperand w .irqTick
    | 0x7 => withNoOperand w .sndCtrlRead
    | 0x8 => withDataOnly w (.sndCtrlWrite (dataField w))
    | 0x9 => withNoOperand w .sndDataRead
    | 0xA => withDataOnly w (.sndDataWrite (dataField w))
    | 0xB => withDataOnly w (.sndStrobeWrite (dataField w))
    | 0xC => withNoOperand w .sndReply
    | 0xD => withNoOperand w .reset
    | _ => .reservedEncoding
  else .reservedEncoding

/-- The instruction the decoder reads from a word of `nbits` bits, `none` where it refuses. A transaction word is a number, not
bytes in a memory (R100), so no byte order enters. -/
def decodeTableWord (nbits w : Nat) : Option Instr :=
  match decode (BitVec.ofNat 32 (w % 2 ^ nbits)) with
  | .decoded i => some i
  | .reservedEncoding => none

/-! ## Encoding -/

/-- The word of an instruction (R101, R102; the match column of spec/opcode_table.json). -/
def encode : Instr → Word
  | .busRead a | .busReadRam a | .busReadFree a | .busReadIo a | .busReadBank a | .busReadRom a => txnWord 0x0 a 0
  | .busWrite a d | .busWriteRam a d | .busWriteFree a d | .busWriteIo a d | .busWriteBank a d | .busWriteRom a d =>
    txnWord 0x1 a d
  | .bankSelect d => txnWord 0x2 0 d
  | .irqClear => txnWord 0x3 0 0
  | .firqClear => txnWord 0x4 0 0
  | .frameTick => txnWord 0x5 0 0
  | .irqTick => txnWord 0x6 0 0
  | .sndCtrlRead => txnWord 0x7 0 0
  | .sndCtrlWrite d => txnWord 0x8 0 d
  | .sndDataRead => txnWord 0x9 0 0
  | .sndDataWrite d => txnWord 0xA 0 d
  | .sndStrobeWrite d => txnWord 0xB 0 d
  | .sndReply => txnWord 0xC 0 0
  | .reset => txnWord 0xD 0 0
  | .reservedE rest => 0xE#4 ++ rest
  | .reservedF rest => 0xF#4 ++ rest

/-- The one of the fourteen transactions that an instruction's word decodes to: a region sub-row shares its word with BUS_READ or
BUS_WRITE (R104; log 11). -/
def Instr.transaction : Instr → Instr
  | .busReadRam a | .busReadFree a | .busReadIo a | .busReadBank a | .busReadRom a => .busRead a
  | .busWriteRam a d | .busWriteFree a d | .busWriteIo a d | .busWriteBank a d | .busWriteRom a d => .busWrite a d
  | i => i

/-- The fourteen transactions of R102. -/
def Instr.isTransaction : Instr → Bool
  | .busRead _ | .busWrite _ _ | .bankSelect _ | .irqClear | .firqClear | .frameTick | .irqTick => true
  | .sndCtrlRead | .sndCtrlWrite _ | .sndDataRead | .sndDataWrite _ | .sndStrobeWrite _ | .sndReply | .reset => true
  | .busReadRam _ | .busReadFree _ | .busReadIo _ | .busReadBank _ | .busReadRom _ => false
  | .busWriteRam _ _ | .busWriteFree _ _ | .busWriteIo _ _ | .busWriteBank _ _ | .busWriteRom _ _ => false
  | .reservedE _ | .reservedF _ => false

/-! ## Address decoding -/

/-- `region(addr)` (R220). -/
def region (c : Config) (a : Addr) : Region :=
  if a.toNat < c.freeBase then .ram
  else if a.toNat < c.ioBase then .free
  else if a.toNat < c.bankBase then .io
  else if a.toNat < c.romBase then .bank
  else .rom

/-! ## Textual syntax (R108)

One transaction per line; numbers in hexadecimal with `0x` or decimal; a comment starts with `;`. Text is a list of characters.
Blanks, tabs and carriage returns separate words, a line with no word is skipped, both cases of a hexadecimal digit are read,
and an operand too wide for its field is refused (log 17). -/

def digit? (c : Char) : Option Nat :=
  if 48 ≤ c.toNat ∧ c.toNat ≤ 57 then some (c.toNat - 48)
  else if 65 ≤ c.toNat ∧ c.toNat ≤ 70 then some (c.toNat - 55)
  else if 97 ≤ c.toNat ∧ c.toNat ≤ 102 then some (c.toNat - 87)
  else none

/-- The digits of a number in the given base, most significant first, on top of the value read so far. -/
def digits? (base : Nat) (acc : Nat) : List Char → Option Nat
  | [] => some acc
  | c :: cs =>
    match digit? c with
    | some d => if d < base then digits? base (acc * base + d) cs else none
    | none => none

def number? : List Char → Option Nat
  | '0' :: 'x' :: c :: cs => digits? 16 0 (c :: cs)
  | c :: cs => digits? 10 0 (c :: cs)
  | [] => none

/-- A number that fits `n` bits. -/
def operand? (n : Nat) (t : List Char) : Option (BitVec n) :=
  match number? t with
  | some v => if v < 2 ^ n then some (BitVec.ofNat n v) else none
  | none => none

/-- The words of a line; a comma is a word of its own. -/
def lineWords (word : List Char) : List Char → List (List Char)
  | [] => if word = [] then [] else [word]
  | c :: cs =>
    let before := if word = [] then [] else [word]
    if c = ' ' ∨ c = '\t' ∨ c = '\r' then before ++ lineWords [] cs
    else if c = ',' then before ++ [','] :: lineWords [] cs
    else lineWords (word ++ [c]) cs

/-- The transaction with no operand that a keyword names. -/
def plainKeyword? (k : List Char) : Option Instr :=
  if k = ['i', 'r', 'q', 'c', 'l', 'r'] then some .irqClear
  else if k = ['f', 'i', 'r', 'q', 'c', 'l', 'r'] then some .firqClear
  else if k = ['f', 'r', 'a', 'm', 'e'] then some .frameTick
  else if k = ['t', 'i', 'c', 'k'] then some .irqTick
  else if k = ['s', 'n', 'd', 'c', 'r'] then some .sndCtrlRead
  else if k = ['s', 'n', 'd', 'd', 'r'] then some .sndDataRead
  else if k = ['r', 'e', 'p', 'l', 'y'] then some .sndReply
  else if k = ['r', 'e', 's', 'e', 't'] then some .reset
  else none

/-- The transaction with one data byte that a keyword names. -/
def dataKeyword? (k : List Char) (d : Byte) : Option Instr :=
  if k = ['b', 'a', 'n', 'k'] then some (.bankSelect d)
  else if k = ['s', 'n', 'd', 'c', 'w'] then some (.sndCtrlWrite d)
  else if k = ['s', 'n', 'd', 'd', 'w'] then some (.sndDataWrite d)
  else if k = ['s', 'n', 'd', 's', 't'] then some (.sndStrobeWrite d)
  else none

/-- The transaction that the words of a line name. -/
def parseWords : List (List Char) → Option Instr
  | [k] => plainKeyword? k
  | [k, x] => if k = ['r', 'd'] then (operand? 16 x).map .busRead else (operand? 8 x).bind (dataKeyword? k)
  | [k, x, comma, y] =>
    if k = ['w', 'r'] ∧ comma = [','] then
      match operand? 16 x, operand? 8 y with
      | some a, some d => some (.busWrite a d)
      | _, _ => none
    else none
  | _ => none

/-- The words of a line without its comment. -/
def codeWords (line : List Char) : List (List Char) := lineWords [] (line.takeWhile (· ≠ ';'))

/-- Assemble one line that holds a transaction (R108). -/
def assembleLine (line : List Char) : Option Instr := parseWords (codeWords line)

/-- Assemble lines; a line with nothing but blanks and a comment is skipped, and one bad line refuses the whole text. -/
def assemble : List (List Char) → Option (List Instr)
  | [] => some []
  | line :: rest =>
    if codeWords line = [] then assemble rest
    else
      match assembleLine line, assemble rest with
      | some i, some is => some (i :: is)
      | _, _ => none

/-- The hexadecimal digit of a nibble. -/
def hexDigit (v : BitVec 4) : Char := Char.ofNat (if v.toNat < 10 then 48 + v.toNat else 55 + v.toNat)

def hexByte (d : Byte) : List Char := ['0', 'x', hexDigit (d.extractLsb' 4 4), hexDigit (d.extractLsb' 0 4)]

def hexAddr (a : Addr) : List Char :=
  ['0', 'x', hexDigit (a.extractLsb' 12 4), hexDigit (a.extractLsb' 8 4), hexDigit (a.extractLsb' 4 4),
    hexDigit (a.extractLsb' 0 4)]

/-- The text of a transaction (R108); the reserved rows have none (spec/opcode_table.json: `"syntax": null`). -/
def disassemble : Instr → Option (List Char)
  | .busRead a | .busReadRam a | .busReadFree a | .busReadIo a | .busReadBank a | .busReadRom a =>
    some (['r', 'd', ' '] ++ hexAddr a)
  | .busWrite a d | .busWriteRam a d | .busWriteFree a d | .busWriteIo a d | .busWriteBank a d | .busWriteRom a d =>
    some (['w', 'r', ' '] ++ hexAddr a ++ [',', ' '] ++ hexByte d)
  | .bankSelect d => some (['b', 'a', 'n', 'k', ' '] ++ hexByte d)
  | .irqClear => some ['i', 'r', 'q', 'c', 'l', 'r']
  | .firqClear => some ['f', 'i', 'r', 'q', 'c', 'l', 'r']
  | .frameTick => some ['f', 'r', 'a', 'm', 'e']
  | .irqTick => some ['t', 'i', 'c', 'k']
  | .sndCtrlRead => some ['s', 'n', 'd', 'c', 'r']
  | .sndCtrlWrite d => some (['s', 'n', 'd', 'c', 'w', ' '] ++ hexByte d)
  | .sndDataRead => some ['s', 'n', 'd', 'd', 'r']
  | .sndDataWrite d => some (['s', 'n', 'd', 'd', 'w', ' '] ++ hexByte d)
  | .sndStrobeWrite d => some (['s', 'n', 'd', 's', 't', ' '] ++ hexByte d)
  | .sndReply => some ['r', 'e', 'p', 'l', 'y']
  | .reset => some ['r', 'e', 's', 'e', 't']
  | .reservedE _ | .reservedF _ => none

end Sys2Proof
end

