-- ==== Sys2Proof/Machine/State.lean ====
section
/-! DEFINITION. The state of the block (10_state.md rules R30 to R47), the events it emits (R41), the configuration and the
outside world's inputs and answers it is run under, the reasons a step can stop, and the state at power-on and reset
(70_reset_and_hazards.md rules R280 and R281). -/

namespace Sys2Proof.Machine

/-- A memory: the bytes listed, addresses strictly rising, no entry equal to what an unlisted address reads as. -/
abbrev Memory := List Host.Cell

/-- The events the block emits to its collaborators (R41). Offsets of the controller's window and digit indexes are numbers, not
bits: the spec never masks them. -/
inductive Event where
  /-- a read of controller register `off` (44_bus_router.md rule R225) -/
  | ctlRead (off : Nat)
  /-- a write of byte `v` to controller register `off` (R226) -/
  | ctlWrite (off : Nat) (v : Byte)
  /-- the controller's `getSegmentState(i)` call (42_timers.md rule R170) -/
  | ctlQuerySegment (i : Nat)
  /-- the controller's `clearSegmentState()` call (R170) -/
  | ctlClearSegments
  /-- a control read forwarded to the primary coprocessor (43_sound_bridge.md rule R191) -/
  | priCtrlRead
  /-- a data read forwarded to the primary coprocessor (R193) -/
  | priDataRead
  /-- a control write forwarded to the primary coprocessor (R192) -/
  | priCtrlWrite (b : Byte)
  /-- a data write forwarded to the primary coprocessor (R194) -/
  | priDataWrite (b : Byte)
  /-- the legacy coprocessor's `dataWrite(byte)` (R192, R194, R195) -/
  | legData (b : Byte)
  /-- the legacy coprocessor's `triggerPulse(t)` (R192, R195) -/
  | legTrigger (t : Bool)
  /-- the log-only report of a protected write to RAM offset `o` under mask `m` (41_protected_ram.md rule R151) -/
  | diagProtViolation (o : Addr) (m : Addr)
  deriving DecidableEq, Repr

/-- A transaction an outside agent issues: its word, and its scheduled time in units of 1/(`FRAME_HZ` * `IRQ_HZ`) s; with no time
it is the next event whatever the time (20_memory.md rule R83, 42_timers.md rule R174; logs 1, 9 and 10). -/
structure Input where
  due  : Option Nat
  word : Word
  deriving DecidableEq, Repr

/-- The answers that the coming queries will get, one list per query of 00_scope.md rule R14, the next answer first; where a list
is empty the answer is a free value (log 4). `timerFirst` answers, at an instant at which a timer and a scheduled input are
both due, whether the timer goes first (20_memory.md rule R84), and `inputOrder`, at an instant at which several inputs are
scheduled, which of them goes first (60_exceptions.md rule R255; log 10). -/
structure Answers where
  protActive  : List Bool
  protMask    : List Addr
  segment     : List (BitVec 16)
  ctlRead     : List Byte
  priCtrlRead : List Byte
  priDataRead : List Byte
  timerFirst  : List Bool
  inputOrder  : List Nat
  deriving DecidableEq, Repr

/-- The state. -/
structure State where
  /-- The configuration, which no step changes (00_scope.md rule R8; log 2). -/
  cfg : Config
  /-- `RAM` (R30), keyed by RAM offset; an unlisted byte reads 0. -/
  ram : Memory
  /-- `FREE` (R31), keyed by offset from `FREE_BASE`; an unlisted byte reads a free value (log 6). -/
  free : Memory
  /-- The model's own: which draw of `FREE` is in force (log 6). -/
  freeEpoch : Nat
  /-- `CUR_BANK` (R33). -/
  curBank : Nat
  /-- `IRQ_LINE` (R36); `true` is asserted. -/
  irqLine : Bool
  /-- `FIRQ_LINE` (R37); `true` is asserted. -/
  firqLine : Bool
  /-- `FRAME_COUNT` (R39). -/
  frameCount : BitVec 16
  /-- `IRQ_COUNT` (R39). -/
  irqCount : BitVec 32
  /-- `DIGIT_OUT` (R40), position 0 first. -/
  digitOut : List (BitVec 16)
  /-- `NEXT_FRAME` (R42), the frame timer's next firing time (log 9). -/
  nextFrame : Nat
  /-- `NEXT_IRQ` (R42), the periodic-interrupt timer's next firing time (log 9). -/
  nextIrq : Nat
  /-- `TRACE` (R41), oldest event first. -/
  trace : List Event
  /-- The model's own: the byte the latest transaction returned to its issuer (30_encoding.md rule R101; log 3). -/
  result : Option Byte
  /-- The model's own: the time of the latest event (log 9). -/
  now : Nat
  /-- The model's own: the transactions the outside agents have issued and that have not run, in the order of issue; they run in the
  order of their times (log 1). -/
  inputs : List Input
  /-- The model's own: the answers of the collaborators to come (log 4). -/
  answers : Answers
  /-- The model's own: how many free values have been used (log 5). -/
  drawn : Nat
  deriving DecidableEq, Repr

/-- The reasons a step faults. The block itself has none: "No condition in this core is fatal" (00_scope.md rule R15,
60_exceptions.md rule R250). -/
inductive Fault where
  /-- Raised by BUS_READ of the banked window or of the fixed high ROM when the index lies outside `IMAGE`, a byte the spec says does
  not exist (`IMAGE[i]` has `0 <= i < IMAGE_SIZE`, R13). Safe: it needs an ill-formed configuration or a `CUR_BANK` above
  `BANK_MASK`, and no run reaches either (log 13). -/
  | imageOutside
  deriving DecidableEq, Repr

/-- The reasons a step is refused (60_exceptions.md rule R252). -/
inductive Refusal where
  /-- Raised by an arm of `exec` whose instruction has no meaning yet (none is left). Safe. -/
  | notModelled (mnemonic : String)
  /-- `ConfigIllFormed`: raised by `step` and by `powerOn` under a configuration that fails one of WF1 to WF9 (R10). Safe. -/
  | configIllFormed
  /-- `ReservedEncoding`: raised by `step` on a word the decoder refuses (R105), and by the two reserved rows. Safe. -/
  | reservedEncoding
  /-- `NoReplySource`: raised by SND_REPLY under a legacy or absent coprocessor (R196). Safe. -/
  | noReplySource
  /-- Raised by a region sub-row of BUS_READ or BUS_WRITE whose address lies in another region, an ill-formed term that no word
  decodes to (log 11). Safe. -/
  | regionMismatch
  deriving DecidableEq, Repr

/-- What a meaning answers. -/
abbrev Result := Host.Outcome State Fault Refusal

/-- No answers supplied: every answer is a free value. -/
def Answers.none : Answers := ⟨[], [], [], [], [], [], [], []⟩

/-- The state at power-on under a configuration (R280, and S0 of 95_test_vectors.md; log 8). -/
def State.initial (c : Config) : State where
  cfg := c
  ram := []
  free := []
  freeEpoch := 0
  curBank := 0
  irqLine := false
  firqLine := false
  frameCount := 0
  irqCount := 0
  digitOut := List.replicate c.digitCount 0
  nextFrame := framePeriod
  nextIrq := irqPeriod
  trace := []
  result := .none
  now := 0
  inputs := []
  answers := Answers.none
  drawn := 0

/-- The state right after power-on and its reset, under the reference configuration (logs 2 and 8). -/
def State.reset : State := State.initial Config.ref

end Sys2Proof.Machine
end

