-- ==== Sys2Proof/Machine/Ops.lean ====
section
/-! DEFINITION. The named operations over the block's memories, its outputs and the collaborators' answers. Taking an exception and
returning from one have no operation here: the block raises none (60_exceptions.md rule R250), and trap entry and return are
the external CPU's (R257); all the block does of an interrupt is to drive two levels (Machine/Flags.lean). -/

namespace Sys2Proof.Machine

/-! ## Sparse memories -/

/-- What an unlisted byte of a region reads as: 0 in `RAM`, which reset clears (10_state.md rule R30); no value in `FREE`, whose
bytes are unspecified until written (R31; log 6). The other regions are no memory of the block's. -/
def unlisted : Region → Option Byte
  | .ram => some 0
  | .free | .io | .bank | .rom => none

/-- The listed byte at `a`. -/
def Memory.lookup : Memory → Nat → Option Byte
  | [], _ => none
  | (b, v) :: m, a => if b = a then some v else Memory.lookup m a

/-- List the byte at `a`, in its place. -/
def Memory.insert : Memory → Nat → Byte → Memory
  | [], a, v => [(a, v)]
  | (b, w) :: m, a, v =>
    if a < b then (a, v) :: (b, w) :: m
    else if b = a then (a, v) :: m
    else (b, w) :: Memory.insert m a v

/-- Unlist the byte at `a`. -/
def Memory.erase (m : Memory) (a : Nat) : Memory := m.filter fun c => c.1 ≠ a

/-- Store a byte in a memory whose unlisted bytes read as `fill`: a byte equal to `fill` is not listed. -/
def Memory.store (fill : Option Byte) (m : Memory) (a : Nat) (v : Byte) : Memory :=
  if fill = some v then m.erase a else m.insert a v

/-- The canonical form of a memory of `size` bytes whose unlisted bytes read as `fill`. -/
abbrev Memory.wf (fill : Option Byte) (size : Nat) (m : Memory) : Prop :=
  m.Pairwise (fun x y => x.1 < y.1) ∧ ∀ c ∈ m, c.1 < size ∧ fill ≠ some c.2

/-! ## The bytes the block shows -/

/-- `RAM[o]` (R30). -/
def State.ramByte (s : State) (o : Nat) : Byte := ((s.ram.lookup o).or (unlisted .ram)).getD 0

/-- `FREE[o]` (R31): the byte written since the last reset, else the free value of the draw in force. -/
def State.freeByte (s : State) (o : Nat) : Byte :=
  ((s.free.lookup o).or (unlisted .free)).getD (Config.freeRam s.freeEpoch o)

/-- The image index that the banked window shows at `addr` (40_banked_rom.md rule R134, 90_conflicts.md C2). -/
def State.bankIndex (s : State) (a : Addr) : Nat :=
  s.cfg.baseOffset + s.curBank * s.cfg.bankSize + (a.toNat - s.cfg.bankBase)

/-- The image index that the fixed high ROM shows at `addr` (44_bus_router.md rule R227). -/
def State.romIndex (s : State) (a : Addr) : Nat := s.cfg.fixedRomOffset + (a.toNat - s.cfg.romBase)

/-- The byte that the block's own storage and image show at a CPU address; `none` in the controller's window, and where an image
index is outside the image. It only observes: no transaction is issued. -/
def State.byteAt (s : State) (a : Addr) : Option Byte :=
  match region s.cfg a with
  | .ram => some (s.ramByte a.toNat)
  | .free => some (s.freeByte (a.toNat - s.cfg.freeBase))
  | .io => none
  | .bank => s.cfg.imageByte (s.bankIndex a)
  | .rom => s.cfg.imageByte (s.romIndex a)

/-- `RAM[o] <- v`. -/
def State.storeRam (s : State) (o : Nat) (v : Byte) : State :=
  { s with ram := s.ram.store (unlisted .ram) o v }

/-- `FREE[o] <- v`. -/
def State.storeFree (s : State) (o : Nat) (v : Byte) : State :=
  { s with free := s.free.store (unlisted .free) o v }

/-- `CUR_BANK <- n`. -/
def State.setBank (s : State) (n : Nat) : State := { s with curBank := n }

/-! ## Outputs -/

/-- `emit E` (00_scope.md rule R13): append an event to the trace (10_state.md rule R41). -/
def State.emit (s : State) (e : Event) : State := { s with trace := s.trace ++ [e] }

/-- The diagnostic code of a diagnostic event (60_exceptions.md rule R251): the protection violation's is 1, and there is no
other diagnostic. -/
def Event.diagnosticCode : Event → Option Nat
  | .diagProtViolation _ _ => some 1
  | .ctlRead _ | .ctlWrite _ _ | .ctlQuerySegment _ | .ctlClearSegments => none
  | .priCtrlRead | .priDataRead | .priCtrlWrite _ | .priDataWrite _ | .legData _ | .legTrigger _ => none

/-- What the latest transaction returned to its issuer. -/
def State.setResult (s : State) (r : Option Byte) : State := { s with result := r }

/-- End a read transaction: it returns a byte (30_encoding.md rule R101). -/
def State.returning (s : State) (b : Byte) : Result := .next (s.setResult (some b))

/-- End a transaction that returns no value (R101). -/
def State.done (s : State) : Result := .next (s.setResult none)

/-- End a read of the image, which returns the byte there. -/
def State.returningImage (s : State) (i : Nat) : Result :=
  match s.cfg.imageByte i with
  | some b => s.returning b
  | none => .fault .imageOutside

/-! ## Answers of the collaborators (00_scope.md rule R14)

`answer…` is the answer the query gets now; `after…` is the state once it has been asked. -/

/-- The counter of free values after a query of a list of answers. -/
def drawnAfter {α : Type} (tape : List α) (n : Nat) : Nat := if tape.isEmpty then n + 1 else n

/-- The `n`-th free value as a Boolean. -/
def freeBool (n : Nat) : Bool := Config.freeValue 1 n == 1

/-- `ask CtlProtActive()`. -/
def State.answerProtActive (s : State) : Bool := s.answers.protActive.headD (freeBool s.drawn)

def State.afterProtActive (s : State) : State :=
  { s with answers := { s.answers with protActive := s.answers.protActive.tail }
           drawn := drawnAfter s.answers.protActive s.drawn }

/-- `ask CtlProtMask()`. -/
def State.answerProtMask (s : State) : Addr := s.answers.protMask.headD (Config.freeValue 16 s.drawn)

def State.afterProtMask (s : State) : State :=
  { s with answers := { s.answers with protMask := s.answers.protMask.tail }
           drawn := drawnAfter s.answers.protMask s.drawn }

/-- `ask CtlSegment(i)`. -/
def State.answerSegment (s : State) : BitVec 16 := s.answers.segment.headD (Config.freeValue 16 s.drawn)

def State.afterSegment (s : State) : State :=
  { s with answers := { s.answers with segment := s.answers.segment.tail }
           drawn := drawnAfter s.answers.segment s.drawn }

/-- `ask CtlRead(off)`. -/
def State.answerCtlRead (s : State) : Byte := s.answers.ctlRead.headD (Config.freeValue 8 s.drawn)

def State.afterCtlRead (s : State) : State :=
  { s with answers := { s.answers with ctlRead := s.answers.ctlRead.tail }
           drawn := drawnAfter s.answers.ctlRead s.drawn }

/-- `ask PriCtrlRead()`. -/
def State.answerPriCtrlRead (s : State) : Byte := s.answers.priCtrlRead.headD (Config.freeValue 8 s.drawn)

def State.afterPriCtrlRead (s : State) : State :=
  { s with answers := { s.answers with priCtrlRead := s.answers.priCtrlRead.tail }
           drawn := drawnAfter s.answers.priCtrlRead s.drawn }

/-- `ask PriDataRead()`. -/
def State.answerPriDataRead (s : State) : Byte := s.answers.priDataRead.headD (Config.freeValue 8 s.drawn)

def State.afterPriDataRead (s : State) : State :=
  { s with answers := { s.answers with priDataRead := s.answers.priDataRead.tail }
           drawn := drawnAfter s.answers.priDataRead s.drawn }

/-- Whether the timer goes first at an instant at which it and a scheduled input are both due (20_memory.md rule R84). -/
def State.answerTimerFirst (s : State) : Bool := s.answers.timerFirst.headD (freeBool s.drawn)

def State.afterTimerFirst (s : State) : State :=
  { s with answers := { s.answers with timerFirst := s.answers.timerFirst.tail }
           drawn := drawnAfter s.answers.timerFirst s.drawn }

/-- Which of `m` inputs scheduled at one instant goes first, a number to be taken modulo `m` (60_exceptions.md rule R255). -/
def State.answerInputOrder (s : State) (m : Nat) : Nat := s.answers.inputOrder.headD (Config.freeValue m s.drawn).toNat

def State.afterInputOrder (s : State) : State :=
  { s with answers := { s.answers with inputOrder := s.answers.inputOrder.tail }
           drawn := drawnAfter s.answers.inputOrder s.drawn }

end Sys2Proof.Machine
end

