-- ==== Sys2Proof/Machine/Operands.lean ====
section
/-! DEFINITION. The operand computations of the transactions: the region guard of a sub-row (30_encoding.md rule R104), the
protection test (41_protected_ram.md rule R151), the masked bank index (40_banked_rom.md rule R133) and the segment
permutation (42_timers.md rule R171). The operands themselves are extracted by the decoder (30_encoding.md rule R103). -/

namespace Sys2Proof.Machine

/-- Run a region sub-row: its address must lie in its region (R104; log 11). -/
def inRegion (r : Region) (a : Addr) (s : State) (k : Result) : Result :=
  if region s.cfg a = r then k else .refused .regionMismatch

/-- A write to RAM offset `o` is protected: protection is active and the offset has every bit of the mask (R151, R152). -/
def isProtected (active : Bool) (mask o : Addr) : Bool := active && (o &&& mask) == mask

/-- The bank a BANK_SELECT of `data` selects: `data & BANK_MASK` (R133). -/
def maskedBank (c : Config) (data : Byte) : Nat := data.toNat &&& c.bankMask

/-- `L` of R171: element `k` is the input bit that output bit `15 - k` takes. -/
def permSource : List Nat := [15, 7, 12, 10, 8, 14, 13, 9, 11, 6, 5, 4, 3, 2, 1, 0]

/-- `PERM` (R171, decision D12): output bit `15 - k` is input bit `L[k]`. -/
def perm (v : BitVec 16) : BitVec 16 :=
  permSource.foldl (fun acc k => acc <<< 1 ||| (BitVec.ofBool (v.getLsbD k)).setWidth 16) 0

end Sys2Proof.Machine
end

