-- ==== Sys2Proof/Machine/BankedRom.lean ====
section
/-! DEFINITION. BankedROMWindow (40_banked_rom.md): BANK_SELECT and the reads and writes of the `BANK` region. -/

namespace Sys2Proof.Machine

/-- Read of the `BANK` region (R134): the byte of the current slice at the window offset. -/
def readBank (a : Addr) (s : State) : Result := s.returningImage (s.bankIndex a)

/-- Write of the `BANK` region (R135): no state written, no event. -/
def writeBank (_a : Addr) (_d : Byte) (s : State) : Result := s.done

/-- BANK_SELECT (R133). -/
def execBankSelect (d : Byte) (s : State) : Result := (s.setBank (maskedBank s.cfg d)).done

/-- BUS_READ.BANK (R134). -/
def execBusReadBank (a : Addr) (s : State) : Result := inRegion .bank a s (readBank a s)

/-- BUS_WRITE.BANK (R135). -/
def execBusWriteBank (a : Addr) (d : Byte) (s : State) : Result := inRegion .bank a s (writeBank a d s)

end Sys2Proof.Machine
end

