-- ==== Sys2Proof/Machine/Flags.lean ====
section
/-! DEFINITION. The block has no flags or condition codes (10_state.md rule R45). The nearest things stand here: the two interrupt
lines (R36, R37, 60_exceptions.md rule R253) and the two wrapping counters (R39) with their timers' schedules (R42). -/

namespace Sys2Proof.Machine

/-- Drive the standard-priority interrupt input (R36). -/
def State.setIrqLine (s : State) (b : Bool) : State := { s with irqLine := b }

/-- Drive the fast-priority interrupt input (R37). -/
def State.setFirqLine (s : State) (b : Bool) : State := { s with firqLine := b }

/-- Count a firing of the frame timer, modulo 2^16 (R39), and advance its next firing time by its period (R42). -/
def State.countFrame (s : State) : State :=
  { s with frameCount := s.frameCount + 1, nextFrame := s.nextFrame + framePeriod }

/-- Count a firing of the periodic-interrupt timer, modulo 2^32 (R39), and advance its next firing time by its period (R42). -/
def State.countIrq (s : State) : State :=
  { s with irqCount := s.irqCount + 1, nextIrq := s.nextIrq + irqPeriod }

end Sys2Proof.Machine
end

