-- ==== Sys2Proof/Machine/ProtectedRam.lean ====
section
/-! DEFINITION. ProtectedRAM (41_protected_ram.md): reads and writes of the `RAM` region. -/

namespace Sys2Proof.Machine

/-- Read of the `RAM` region (R150): protection never applies. -/
def readRam (a : Addr) (s : State) : Result := s.returning (s.ramByte a.toNat)

/-- Write of the `RAM` region (R151): the two protection inputs are sampled at the write (R153); a protected write stores nothing
and emits the diagnostic. -/
def writeRam (a : Addr) (d : Byte) (s : State) : Result :=
  let active := s.answerProtActive
  let s₁ := s.afterProtActive
  let mask := s₁.answerProtMask
  let s₂ := s₁.afterProtMask
  if isProtected active mask a then (s₂.emit (.diagProtViolation a mask)).done
  else (s₂.storeRam a.toNat d).done

/-- BUS_READ.RAM (R150). -/
def execBusReadRam (a : Addr) (s : State) : Result := inRegion .ram a s (readRam a s)

/-- BUS_WRITE.RAM (R151). -/
def execBusWriteRam (a : Addr) (d : Byte) (s : State) : Result := inRegion .ram a s (writeRam a d s)

end Sys2Proof.Machine
end

