-- ==== Sys2Proof/Machine/BusRouter.lean ====
section
/-! DEFINITION. BusRouter (44_bus_router.md): the dispatch of CPU reads and writes, the regions the router serves itself, and the two
interrupt-clear callbacks. -/

namespace Sys2Proof.Machine

/-! ## Regions served by the router -/

/-- Read of the `FREE` region (R223). -/
def readFree (a : Addr) (s : State) : Result := s.returning (s.freeByte (a.toNat - s.cfg.freeBase))

/-- Write of the `FREE` region (R224): no protection test applies. -/
def writeFree (a : Addr) (d : Byte) (s : State) : Result := (s.storeFree (a.toNat - s.cfg.freeBase) d).done

/-- Read of the `IO` region (R225): forwarded to the controller, whose answer is returned. -/
def readIo (a : Addr) (s : State) : Result :=
  let s₁ := s.emit (.ctlRead (a.toNat - s.cfg.ioBase))
  s₁.afterCtlRead.returning s₁.answerCtlRead

/-- Write of the `IO` region (R226): forwarded to the controller. -/
def writeIo (a : Addr) (d : Byte) (s : State) : Result := (s.emit (.ctlWrite (a.toNat - s.cfg.ioBase) d)).done

/-- Read of the `ROM` region (R227). -/
def readRom (a : Addr) (s : State) : Result := s.returningImage (s.romIndex a)

/-- Write of the `ROM` region (R228): no state written, no event. -/
def writeRom (_a : Addr) (_d : Byte) (s : State) : Result := s.done

/-! ## Dispatch -/

/-- BUS_READ (R221). -/
def execBusRead (a : Addr) (s : State) : Result :=
  match region s.cfg a with
  | .ram => readRam a s
  | .free => readFree a s
  | .io => readIo a s
  | .bank => readBank a s
  | .rom => readRom a s

/-- BUS_WRITE (R222). -/
def execBusWrite (a : Addr) (d : Byte) (s : State) : Result :=
  match region s.cfg a with
  | .ram => writeRam a d s
  | .free => writeFree a d s
  | .io => writeIo a d s
  | .bank => writeBank a d s
  | .rom => writeRom a d s

/-- BUS_READ.FREE (R223). -/
def execBusReadFree (a : Addr) (s : State) : Result := inRegion .free a s (readFree a s)

/-- BUS_WRITE.FREE (R224). -/
def execBusWriteFree (a : Addr) (d : Byte) (s : State) : Result := inRegion .free a s (writeFree a d s)

/-- BUS_READ.IO (R225). -/
def execBusReadIo (a : Addr) (s : State) : Result := inRegion .io a s (readIo a s)

/-- BUS_WRITE.IO (R226). -/
def execBusWriteIo (a : Addr) (d : Byte) (s : State) : Result := inRegion .io a s (writeIo a d s)

/-- BUS_READ.ROM (R227). -/
def execBusReadRom (a : Addr) (s : State) : Result := inRegion .rom a s (readRom a s)

/-- BUS_WRITE.ROM (R228). -/
def execBusWriteRom (a : Addr) (d : Byte) (s : State) : Result := inRegion .rom a s (writeRom a d s)

/-! ## Interrupt-clear callbacks -/

/-- IRQ_CLEAR (R229). -/
def execIrqClear (s : State) : Result := (s.setIrqLine false).done

/-- FIRQ_CLEAR (R230). -/
def execFirqClear (s : State) : Result := (s.setFirqLine false).done

end Sys2Proof.Machine
end

