-- ==== Sys2Proof/Machine/Reset.lean ====
section
/-! DEFINITION. Machine reset and power-on (70_reset_and_hazards.md rules R280 and R281, 40_banked_rom.md rule R130), and the reserved
rows of the opcode table (30_encoding.md rule R105). -/

namespace Sys2Proof.Machine

/-- The free values that RESET draws for `DIGIT_OUT`, from the `k`-th on (R281, decision D17; log 7). -/
def drawnDigits (k n : Nat) : List (BitVec 16) := (List.range n).map fun i => Config.freeValue 16 (k + i)

/-- The state after RESET (R281): `RAM`, `CUR_BANK` and the counters are cleared; the lines, `DIGIT_OUT` and `FREE` are drawn (log 7);
the configuration, the timer schedule and the trace are unchanged. -/
def State.afterReset (s : State) : State :=
  { s with
    ram := []
    curBank := 0
    frameCount := 0
    irqCount := 0
    irqLine := freeBool s.drawn
    firqLine := freeBool (s.drawn + 1)
    digitOut := drawnDigits (s.drawn + 2) s.cfg.digitCount
    free := []
    freeEpoch := s.freeEpoch + 1
    drawn := s.drawn + 2 + s.cfg.digitCount }

/-- RESET (R281). -/
def execReset (s : State) : Result := s.afterReset.done

/-- CONFIGURE and power-on (R130, R280): an ill-formed configuration is refused and has no state (R10). -/
def powerOn (c : Config) : Result := if c.wf then .next (State.initial c) else .refused .configIllFormed

/-- The row RESERVED_E (R105). -/
def execReservedE (_rest : BitVec 28) (_s : State) : Result := .refused .reservedEncoding

/-- The row RESERVED_F (R105). -/
def execReservedF (_rest : BitVec 28) (_s : State) : Result := .refused .reservedEncoding

end Sys2Proof.Machine
end

