-- ==== Sys2Proof/Machine/SoundBridge.lean ====
section
/-! DEFINITION. SoundBridge (43_sound_bridge.md): the five sound operations, routed by the sound case of R190, and the primary
coprocessor's reply. -/

namespace Sys2Proof.Machine

/-- SND_CTRL_READ (R191). -/
def execSndCtrlRead (s : State) : Result :=
  match s.cfg.soundCase with
  | .primary => (s.emit .priCtrlRead).afterPriCtrlRead.returning (s.emit .priCtrlRead).answerPriCtrlRead
  | .legacy => s.returning 0
  | .absent => s.returning 0

/-- SND_CTRL_WRITE (R192): under the legacy protocol the byte is latched first, then the trigger is pulsed (decision D13). -/
def execSndCtrlWrite (b : Byte) (s : State) : Result :=
  match s.cfg.soundCase with
  | .primary => (s.emit (.priCtrlWrite b)).done
  | .legacy => ((s.emit (.legData b)).emit (.legTrigger true)).done
  | .absent => s.done

/-- SND_DATA_READ (R193). -/
def execSndDataRead (s : State) : Result :=
  match s.cfg.soundCase with
  | .primary => (s.emit .priDataRead).afterPriDataRead.returning (s.emit .priDataRead).answerPriDataRead
  | .legacy => s.returning 0
  | .absent => s.returning 0

/-- SND_DATA_WRITE (R194): under the legacy protocol the byte is latched, untriggered. -/
def execSndDataWrite (b : Byte) (s : State) : Result :=
  match s.cfg.soundCase with
  | .primary => (s.emit (.priDataWrite b)).done
  | .legacy => (s.emit (.legData b)).done
  | .absent => s.done

/-- SND_STROBE_WRITE (R195): a complete latch, pulse, unpulse cycle on the legacy backend, nothing elsewhere. -/
def execSndStrobeWrite (b : Byte) (s : State) : Result :=
  match s.cfg.soundCase with
  | .primary => s.done
  | .legacy => (((s.emit (.legData b)).emit (.legTrigger true)).emit (.legTrigger false)).done
  | .absent => s.done

/-- SND_REPLY (R196): only the primary coprocessor has a reply signal (decision D14). -/
def execSndReply (s : State) : Result :=
  match s.cfg.soundCase with
  | .primary => (s.setFirqLine true).done
  | .legacy => .refused .noReplySource
  | .absent => .refused .noReplySource

end Sys2Proof.Machine
end

