-- ==== Sys2Proof/Machine/Timers.lean ====
section
/-! DEFINITION. InterruptTimerPair (42_timers.md): the firing of the frame timer and of the periodic-interrupt timer. When they fire
stands in Machine/Timeline.lean. -/

namespace Sys2Proof.Machine

/-- Query the controller for each listed index in order, and permute each answer (R170). -/
def latchDigits : List Nat → State → List (BitVec 16) × State
  | [], s => ([], s)
  | j :: js, s =>
    let s₁ := s.emit (.ctlQuerySegment j)
    let rest := latchDigits js s₁.afterSegment
    (perm s₁.answerSegment :: rest.1, rest.2)

/-- `DIGIT_OUT <- l`. -/
def State.setDigitOut (s : State) (l : List (BitVec 16)) : State := { s with digitOut := l }

/-- FRAME_TICK (R170). -/
def execFrameTick (s : State) : Result :=
  let latched := latchDigits s.cfg.digitQueries s
  (((latched.2.setDigitOut latched.1).emit .ctlClearSegments).countFrame).done

/-- IRQ_TICK (R172). -/
def execIrqTick (s : State) : Result := ((s.setIrqLine true).countIrq).done

end Sys2Proof.Machine
end

