-- ==== Sys2Proof/Machine/Dispatch.lean ====
section
/-! DEFINITION. The dispatch of an instruction to its meaning, one arm per row of spec/opcode_table.json. -/

namespace Sys2Proof.Machine

def exec (i : Instr) (s : State) : Host.Outcome State Fault Refusal :=
  match i with
  | .busRead addr => Sys2Proof.Machine.execBusRead addr s
  | .busReadRam addr => Sys2Proof.Machine.execBusReadRam addr s
  | .busReadFree addr => Sys2Proof.Machine.execBusReadFree addr s
  | .busReadIo addr => Sys2Proof.Machine.execBusReadIo addr s
  | .busReadBank addr => Sys2Proof.Machine.execBusReadBank addr s
  | .busReadRom addr => Sys2Proof.Machine.execBusReadRom addr s
  | .busWrite addr data => Sys2Proof.Machine.execBusWrite addr data s
  | .busWriteRam addr data => Sys2Proof.Machine.execBusWriteRam addr data s
  | .busWriteFree addr data => Sys2Proof.Machine.execBusWriteFree addr data s
  | .busWriteIo addr data => Sys2Proof.Machine.execBusWriteIo addr data s
  | .busWriteBank addr data => Sys2Proof.Machine.execBusWriteBank addr data s
  | .busWriteRom addr data => Sys2Proof.Machine.execBusWriteRom addr data s
  | .bankSelect data => Sys2Proof.Machine.execBankSelect data s
  | .irqClear => Sys2Proof.Machine.execIrqClear s
  | .firqClear => Sys2Proof.Machine.execFirqClear s
  | .frameTick => Sys2Proof.Machine.execFrameTick s
  | .irqTick => Sys2Proof.Machine.execIrqTick s
  | .sndCtrlRead => Sys2Proof.Machine.execSndCtrlRead s
  | .sndCtrlWrite data => Sys2Proof.Machine.execSndCtrlWrite data s
  | .sndDataRead => Sys2Proof.Machine.execSndDataRead s
  | .sndDataWrite data => Sys2Proof.Machine.execSndDataWrite data s
  | .sndStrobeWrite data => Sys2Proof.Machine.execSndStrobeWrite data s
  | .sndReply => Sys2Proof.Machine.execSndReply s
  | .reset => Sys2Proof.Machine.execReset s
  | .reservedE rest => Sys2Proof.Machine.execReservedE rest s
  | .reservedF rest => Sys2Proof.Machine.execReservedF rest s

end Sys2Proof.Machine
end

