-- ==== Sys2Proof/Machine/Timeline.lean ====
section
/-! DEFINITION. The global event timeline (20_memory.md rules R83 and R84, 60_exceptions.md rule R255, 42_timers.md rules R173 and
R174): which transaction comes next, a timer's firing or the next input, and the time it comes at. The block fetches nothing
from a memory (10_state.md rule R44): this is what the model has in place of a fetch (logs 1, 9 and 10). -/

namespace Sys2Proof.Machine

/-- The earlier of the two timers' next firing times (R173). -/
def State.timerTime (s : State) : Nat := min s.nextFrame s.nextIrq

/-- The frame timer is the next timer to fire: it is due earlier, or at the same instant and was registered first (R84; log 10). -/
def State.frameIsNext (s : State) : Bool :=
  decide (s.nextFrame < s.nextIrq) || (s.nextFrame == s.nextIrq && s.cfg.frameTimerFirst)

/-- Move the time of the latest event on; it never goes back. -/
def State.advanceTo (s : State) (t : Nat) : State := { s with now := max s.now t }

/-- The transaction the next timer issues, and the state in which it runs. -/
def State.timerEvent (s : State) : Word × State :=
  (if s.frameIsNext then encode .frameTick else encode .irqTick, s.advanceTo s.timerTime)

/-- Replace the inputs still to come. -/
def State.setInputs (s : State) (l : List Input) : State := { s with inputs := l }

/-- `i` comes before `j` whichever was issued first: it is scheduled earlier, or has no time of its own where `j` has one. -/
def Input.before (i j : Input) : Bool :=
  match i.due, j.due with
  | none, none => false
  | none, some _ => true
  | some _, none => false
  | some t, some u => decide (t < u)

/-- The input with the earliest time and the others in their order: inputs are "totally ordered by scheduled time" (R83), and one with
no time is due at once (R174). Of several, it is the one issued first: with no time they run in that order (log 10). -/
def earliestInput : List Input → Option (Input × List Input)
  | [] => none
  | i :: rest =>
    match earliestInput rest with
    | none => some (i, [])
    | some (j, others) => if j.before i then some (j, i :: others) else some (i, rest)

/-- How many of the inputs are scheduled at `t`. -/
def dueCount (t : Nat) (l : List Input) : Nat := l.countP fun i => i.due == some t

/-- The `k`-th of the inputs scheduled at `t`, and the others in their order. -/
def nthDue (t : Nat) : Nat → List Input → Option (Input × List Input)
  | _, [] => none
  | k, i :: rest =>
    if i.due = some t then
      match k with
      | 0 => some (i, rest)
      | k + 1 => (nthDue t k rest).map fun r => (r.1, i :: r.2)
    else (nthDue t k rest).map fun r => (r.1, i :: r.2)

/-- Which of the inputs scheduled at `t` runs: of several, any, as the answer or a free value says (60_exceptions.md rule R255,
decision D19; log 10). -/
def State.inputChoice (s : State) (t : Nat) : Nat :=
  if dueCount t s.inputs ≤ 1 then 0 else s.answerInputOrder (dueCount t s.inputs) % dueCount t s.inputs

/-- The state once the choice has been made: a lone input asks nothing. -/
def State.afterInputChoice (s : State) (t : Nat) : State := if dueCount t s.inputs ≤ 1 then s else s.afterInputOrder

/-- An input scheduled at `t` runs, and the state in which it runs; `first` is the one issued first. -/
def State.inputEvent (s : State) (t : Nat) (first : Input × List Input) : Word × State :=
  let chosen := (nthDue t (s.inputChoice t) s.inputs).getD first
  (chosen.1.word, ((s.afterInputChoice t).setInputs chosen.2).advanceTo t)

/-- The next transaction on the timeline, and the state in which it runs. An input with no time comes next whatever the timers'
schedule (R174); scheduled ones come in the order of time (R83), and at the same instant as a timer in either order (R84). -/
def State.nextEvent (s : State) : Word × State :=
  match earliestInput s.inputs with
  | none => s.timerEvent
  | some (i, rest) =>
    match i.due with
    | none => (i.word, s.setInputs rest)
    | some t =>
      if s.timerTime < t then s.timerEvent
      else if t < s.timerTime then s.inputEvent t (i, rest)
      else if s.answerTimerFirst then s.afterTimerFirst.timerEvent
      else s.afterTimerFirst.inputEvent t (i, rest)

/-- Issue instructions as the coming inputs, each with no time of its own. -/
def State.issue (s : State) (is : List Instr) : State :=
  { s with inputs := s.inputs ++ is.map fun i => ⟨none, encode i⟩ }

end Sys2Proof.Machine
end

