-- ==== Sys2Proof/Machine/Step.lean ====
section
/-! DEFINITION. One step: the next transaction on the timeline is decoded and run to completion (20_memory.md rule R78), with the three
outcomes of Host/Core.lean; 00_scope.md rule R15 gives the block two of them. -/

namespace Sys2Proof.Machine

/-- One step of the machine. An ill-formed configuration has no state (R10), so it is refused. -/
def step (s : State) : Host.Outcome State Fault Refusal :=
  if s.cfg.wf then
    match decode s.nextEvent.1 with
    | .decoded i => exec i s.nextEvent.2
    | .reservedEncoding => .refused .reservedEncoding
  else .refused .configIllFormed

/-- `s` with the word issued as the very next transaction (log 1): the head of the inputs, with no time of its own. -/
def State.withFetchWord (s : State) (nbits w : Nat) : State :=
  { s with inputs := ⟨none, BitVec.ofNat 32 (w % 2 ^ nbits)⟩ :: s.inputs }

end Sys2Proof.Machine
end

