-- ==== Sys2Proof/Safety.lean ====
section
/-! DEFINITION. What counts as a good state and a safe step: the two invariants that every step keeps, and the outcomes that
count as safe (00_scope.md rule R15, 60_exceptions.md rules R250 and R252). -/

namespace Sys2Proof.Machine

/-- The invariant of the block: the configuration is well formed (00_scope.md rule R10); `CUR_BANK & BANK_MASK = CUR_BANK`
(10_state.md rule R34); both memories are canonical and lie inside their regions (R30, R31); there is one `DIGIT_OUT` entry
per digit position (R40); and each timer's next firing is a whole number of its periods after initialization (R42,
42_timers.md rule R173). -/
abbrev State.Inv (s : State) : Prop :=
  s.cfg.wf = true ∧
  s.curBank &&& s.cfg.bankMask = s.curBank ∧
  Memory.wf (unlisted .ram) s.cfg.ramSize s.ram ∧
  Memory.wf (unlisted .free) s.cfg.freeSize s.free ∧
  s.digitOut.length = s.cfg.digitCount ∧
  (s.nextFrame % framePeriod = 0 ∧ 0 < s.nextFrame) ∧
  (s.nextIrq % irqPeriod = 0 ∧ 0 < s.nextIrq)

/-- The order of time: nothing that is still to come is scheduled before the latest event, neither a timer's firing nor an input
(20_memory.md rule R83, 42_timers.md rule R173; log 9). -/
abbrev State.InOrder (s : State) : Prop :=
  s.now ≤ s.nextFrame ∧ s.now ≤ s.nextIrq ∧ ∀ i ∈ s.inputs, ∀ t ∈ i.due, s.now ≤ t

/-- A step is safe when it does not fault: "No condition in this core is fatal" (R15, R250). -/
def Result.isSafe (r : Result) : Bool :=
  match r with
  | .next _ => true
  | .refused _ => true
  | .fault _ => false

end Sys2Proof.Machine
end

