-- ==== Sys2Proof/WellFormed.lean ====
section
/-! DEFINITION. Which instruction terms are well formed under a configuration: a region sub-row's address lies in its region
(30_encoding.md rule R104), and a reserved row is never well formed (R105). -/

namespace Sys2Proof

/-- The region a sub-row of BUS_READ or BUS_WRITE belongs to, with its address (R104). -/
def Instr.subRow : Instr → Option (Region × Addr)
  | .busReadRam a | .busWriteRam a _ => some (.ram, a)
  | .busReadFree a | .busWriteFree a _ => some (.free, a)
  | .busReadIo a | .busWriteIo a _ => some (.io, a)
  | .busReadBank a | .busWriteBank a _ => some (.bank, a)
  | .busReadRom a | .busWriteRom a _ => some (.rom, a)
  | .busRead _ | .busWrite _ _ | .bankSelect _ | .irqClear | .firqClear | .frameTick | .irqTick => none
  | .sndCtrlRead | .sndCtrlWrite _ | .sndDataRead | .sndDataWrite _ | .sndStrobeWrite _ | .sndReply | .reset => none
  | .reservedE _ | .reservedF _ => none

/-- Neither of the reserved rows (R105). -/
def Instr.notReserved : Instr → Bool
  | .reservedE _ | .reservedF _ => false
  | .busRead _ | .busReadRam _ | .busReadFree _ | .busReadIo _ | .busReadBank _ | .busReadRom _ => true
  | .busWrite _ _ | .busWriteRam _ _ | .busWriteFree _ _ | .busWriteIo _ _ | .busWriteBank _ _ | .busWriteRom _ _ => true
  | .bankSelect _ | .irqClear | .firqClear | .frameTick | .irqTick => true
  | .sndCtrlRead | .sndCtrlWrite _ | .sndDataRead | .sndDataWrite _ | .sndStrobeWrite _ | .sndReply | .reset => true

/-- Well-formedness of an instruction. -/
def Instr.wf (c : Config) (i : Instr) : Bool :=
  i.notReserved &&
    match i.subRow with
    | some (r, a) => region c a == r
    | none => true

end Sys2Proof
end

