-- ==== Sys2Proof/Certificates/Slice0/Obligations.lean ====
section
/-! DEFINITION. The statements for the provers. A docstring says which rule of spec/ a statement formalises, or names the decision of
the spec's own (D<n>) or the log entry (log <n>) that a clause rests on. A next state is written out in full, so a statement of
a result is also the instruction's frame and says that the instruction completes. Every clause about a word rests on the
encoding, which the spec marks as its own (decision D1). -/

open Sys2Proof Sys2Proof.Machine

/-! ## Encoding -/

/-- The words of 95_test_vectors.md section 2.1 (EN-1 to EN-12) decode as listed there. The word format is the spec's own (decision D1). -/
def Obligations.SampleWordsDecodeAsTheVectorsSay : Prop :=
  decode 0x00400000 = .decoded (.busRead 0x4000) ∧
  decode 0x100FFFAA = .decoded (.busWrite 0x0FFF 0xAA) ∧
  decode 0x20000025 = .decoded (.bankSelect 0x25) ∧
  decode 0x30000000 = .decoded .irqClear ∧
  decode 0x40000000 = .decoded .firqClear ∧
  decode 0x50000000 = .decoded .frameTick ∧
  decode 0x60000000 = .decoded .irqTick ∧
  decode 0x70000000 = .decoded .sndCtrlRead ∧
  decode 0x80000034 = .decoded (.sndCtrlWrite 0x34) ∧
  decode 0x90000000 = .decoded .sndDataRead ∧
  decode 0xA0000012 = .decoded (.sndDataWrite 0x12) ∧
  decode 0xB0000056 = .decoded (.sndStrobeWrite 0x56) ∧
  decode 0xC0000000 = .decoded .sndReply ∧
  decode 0xD0000000 = .decoded .reset ∧
  decode 0xE0000000 = .reservedEncoding ∧
  decode 0xF0000000 = .reservedEncoding ∧
  decode 0x01000000 = .reservedEncoding ∧
  decode 0x20012300 = .reservedEncoding ∧
  decode 0x00400001 = .reservedEncoding ∧
  decode 0x30000001 = .reservedEncoding ∧
  decode 0x10FFFFFF = .decoded (.busWrite 0xFFFF 0xFF)

/-- Every well-formed instruction, with every operand, survives encoding and decoding: the fourteen transactions come back as they
are, and a region sub-row comes back as the BUS_READ or BUS_WRITE of the same address and data, whose word it shares (decision
D1; log 11). -/
def Obligations.DecodeOfEncodeIsTheTransaction : Prop :=
  ∀ (c : Config) (i : Instr), i.wf c = true →
    decode (encode i) = .decoded i.transaction ∧ (i.isTransaction = true → i.transaction = i)

/-- Two well-formed instructions of one level of the opcode table (the fourteen transactions, or the region sub-rows) with the same
word are the same instruction (decision D1; log 11). -/
def Obligations.EncodeIsInjectiveAtEachTableLevel : Prop :=
  ∀ (c : Config) (i j : Instr), i.wf c = true → j.wf c = true → i.subRow.isSome = j.subRow.isSome →
    encode i = encode j → i = j

/-- A word that decodes is the word of what it decodes to, which is one of the fourteen transactions: no word has two readings, and
no bit of it is dropped (decision D1). -/
def Obligations.EncodeOfDecodeIsTheWord : Prop :=
  ∀ (w : Word) (i : Instr), decode w = .decoded i → encode i = w ∧ i.isTransaction = true

/-- The decoder refuses exactly the invalid words: a reserved OP, a non-zero RSV, a non-zero ADDR for an operation other than BUS_READ
and BUS_WRITE, a non-zero DATA for an operation that takes no data byte (30_encoding.md section 4, decision D30). -/
def Obligations.DecoderRefusesExactlyTheInvalidWords : Prop :=
  ∀ w : Word,
    decode w = .reservedEncoding ↔
      w.extractLsb' 28 4 = 0xE#4 ∨ w.extractLsb' 28 4 = 0xF#4 ∨
      w.extractLsb' 24 4 ≠ 0#4 ∨
      (w.extractLsb' 28 4 ∉ [0x0#4, 0x1#4] ∧ w.extractLsb' 8 16 ≠ 0#16) ∨
      (w.extractLsb' 28 4 ∈ [0x0#4, 0x3#4, 0x4#4, 0x5#4, 0x6#4, 0x7#4, 0x9#4, 0xC#4, 0xD#4] ∧ w.extractLsb' 0 8 ≠ 0#8)

/-- The assembler reads the text of a transaction back (30_encoding.md section 6; the syntax is the spec's own, decision D23; log
17). -/
def Obligations.AssemblerReadsBackTheText : Prop :=
  ∀ (i : Instr) (text : List Char), disassemble i = some text → assembleLine text = some i.transaction

/-! ## Configuration -/

/-- A configuration is well formed exactly when WF1 to WF9 hold (00_scope.md section 3, decisions D2, D4, D5, D6). -/
def Obligations.WellFormedConfigurationIsWF1ToWF9 : Prop :=
  ∀ c : Config,
    c.wf = true ↔
      (0 < c.freeBase ∧ c.freeBase < c.ioBase ∧ c.ioBase < c.bankBase ∧ c.bankBase < c.romBase ∧ c.romBase < 65536) ∧
      c.romBase - c.bankBase = c.bankSize ∧
      (0 < c.bankSize ∧ c.bankSize ≤ c.imageSize - c.baseOffset) ∧
      (c.imageSize - c.baseOffset) / c.bankSize - 1 ≤ c.bankCount - 1 ∧
      c.baseOffset + ((c.imageSize - c.baseOffset) / c.bankSize - 1 + 1) * c.bankSize ≤ c.imageSize ∧
      c.fixedRomOffset + (65536 - c.romBase) ≤ c.imageSize ∧
      c.freeBase ≤ 65536 ∧
      c.replyGatesIrq = false ∧
      c.digitCount ≤ c.digitSource.length ∧
      0 < c.bankCount

/-- An ill-formed configuration is refused, at power-on and at every step (00_scope.md section 3, decisions D2, D4, D5, D6). -/
def Obligations.IllFormedConfigurationIsRefused : Prop :=
  (∀ c : Config, c.wf = false → powerOn c = .refused .configIllFormed) ∧
  (∀ s : State, s.cfg.wf = false → step s = .refused .configIllFormed)

/-! ## The step -/

/-- A step runs the decoded transaction: when the next word on the timeline decodes to `i`, the step is `exec i` in the state the
timeline gives, with nothing added; a word the decoder refuses is refused (log 1). -/
def Obligations.StepRunsTheDecodedTransaction : Prop :=
  ∀ s : State, s.cfg.wf = true →
    (∀ i, decode s.nextEvent.1 = .decoded i → step s = exec i s.nextEvent.2) ∧
    (decode s.nextEvent.1 = .reservedEncoding → step s = .refused .reservedEncoding)

/-- A word issued with `withFetchWord` is the very next step, and runs in the state it was issued in (log 1). -/
def Obligations.IssuedInstructionIsTheVeryNextStep : Prop :=
  ∀ (s : State) (i : Instr), s.cfg.wf = true → i.wf s.cfg = true →
    step (s.withFetchWord 32 (encode i).toNat) = exec i.transaction s

/-- The timeline orders the inputs and the timers by time. The next input is one with the earliest time; one with no time comes before
all that have one, and those with none in the order of issue. A scheduled input comes before both timers if it is due earlier,
after the earlier timer if it is due later, and at the same instant in either order, as the next answer of `timerFirst` or a free
value says. Of several inputs scheduled at one instant any may come first, as the next answer of `inputOrder` or a free value
says, and a lone one asks nothing. With no input, and wherever a timer comes next, the earlier of the two timers fires, at one
instant the one registered first (20_memory.md section 5, 42_timers.md section 3, 60_exceptions.md section 3; decisions D18 and
D19; logs 9 and 10). -/
def Obligations.TimelineIsOrderedByTime : Prop :=
  (∀ i j : Input, i.before j = true ↔ ∃ u, j.due = some u ∧ ∀ t, i.due = some t → t < u) ∧
  (∀ (t : Nat) (l : List Input), dueCount t l = (l.filter fun i => i.due = some t).length) ∧
  ∀ s : State,
    s.timerEvent =
      (if s.nextFrame < s.nextIrq ∨ s.nextFrame = s.nextIrq ∧ s.cfg.frameTimerFirst = true
        then encode .frameTick else encode .irqTick, { s with now := max s.now (min s.nextFrame s.nextIrq) }) ∧
    (s.inputs = [] → s.nextEvent = s.timerEvent) ∧
    (∀ (pre post : List Input) (i : Input), s.inputs = pre ++ i :: post →
      (∀ j ∈ pre, i.before j = true) → (∀ j ∈ post, j.before i = false) →
      (i.due = none → s.nextEvent = (i.word, { s with inputs := pre ++ post })) ∧
      (∀ t, i.due = some t →
        (t < s.nextFrame → t < s.nextIrq → s.nextEvent = s.inputEvent t (i, pre ++ post)) ∧
        (s.nextFrame < t ∨ s.nextIrq < t → s.nextEvent = s.timerEvent) ∧
        (t = min s.nextFrame s.nextIrq →
          (∀ b bs, s.answers.timerFirst = b :: bs →
            s.nextEvent =
              if b then { s with answers := { s.answers with timerFirst := bs } }.timerEvent
              else { s with answers := { s.answers with timerFirst := bs } }.inputEvent t (i, pre ++ post)) ∧
          (s.answers.timerFirst = [] →
            s.nextEvent =
              if freeBool s.drawn then { s with drawn := s.drawn + 1 }.timerEvent
              else { s with drawn := s.drawn + 1 }.inputEvent t (i, pre ++ post))))) ∧
    (∀ (pre post : List Input) (i : Input) (t : Nat) (first : Input × List Input), s.inputs = pre ++ i :: post →
      i.due = some t →
      (dueCount t (pre ++ post) = 0 →
        s.inputEvent t first = (i.word, { s with inputs := pre ++ post, now := max s.now t })) ∧
      (0 < dueCount t (pre ++ post) →
        (∀ k ks, s.answers.inputOrder = k :: ks → k % (dueCount t (pre ++ post) + 1) = dueCount t pre →
          s.inputEvent t first =
            (i.word, { s with inputs := pre ++ post, now := max s.now t,
                              answers := { s.answers with inputOrder := ks } })) ∧
        (s.answers.inputOrder = [] →
          (Config.freeValue (dueCount t (pre ++ post) + 1) s.drawn).toNat % (dueCount t (pre ++ post) + 1) =
            dueCount t pre →
          s.inputEvent t first =
            (i.word, { s with inputs := pre ++ post, now := max s.now t, drawn := s.drawn + 1 }))))

/-- Left alone, the block runs for ever on its own timers, and their firings keep their rates: after any number of steps from
power-on with no input, with `f` frame ticks and `q` interrupt ticks fired, the next ones are due at `(f + 1) / 60` s and `(q
+ 1) / 976` s, no firing is early or overdue, the counters count them, and the standard line is asserted exactly if an interrupt
tick has fired (42_timers.md sections 3 and 4; the rate 976 is decision D18; that the line is clear at power-on, and so before the
first interrupt tick, is decision D16, log 8; the schedule, log 9). The unit of time is 1/58560 s. -/
def Obligations.TimersKeepTheirSchedule : Prop :=
  frameHz * framePeriod = unitsPerSecond ∧ irqHz * irqPeriod = unitsPerSecond ∧ frameHz = 60 ∧ irqHz = 976 ∧
  ∀ (c : Config) (n : Nat), c.wf = true →
    ∃ (f q : Nat) (t : State), f + q = n ∧ Sys2Proof.core.run n (State.initial c) = .next t ∧
      t.nextFrame = (f + 1) * framePeriod ∧ t.nextIrq = (q + 1) * irqPeriod ∧
      f * framePeriod ≤ t.now ∧ q * irqPeriod ≤ t.now ∧ t.now ≤ t.nextFrame ∧ t.now ≤ t.nextIrq ∧
      t.frameCount = BitVec.ofNat 16 f ∧ t.irqCount = BitVec.ofNat 32 q ∧ t.irqLine = decide (0 < q)

/-! ## Regions and dispatch -/

/-- Under a well-formed configuration each address lies in exactly the region its bounds say (44_bus_router.md section 1; that the cases
are disjoint and total is the spec's own derivation; the boundaries are parameters, decision D2). -/
def Obligations.RegionIsDecidedByTheBoundaries : Prop :=
  ∀ (c : Config) (a : Addr), c.wf = true →
    (region c a = .ram ↔ a.toNat < c.freeBase) ∧
    (region c a = .free ↔ c.freeBase ≤ a.toNat ∧ a.toNat < c.ioBase) ∧
    (region c a = .io ↔ c.ioBase ≤ a.toNat ∧ a.toNat < c.bankBase) ∧
    (region c a = .bank ↔ c.bankBase ≤ a.toNat ∧ a.toNat < c.romBase) ∧
    (region c a = .rom ↔ c.romBase ≤ a.toNat)

/-- R221: BUS_READ is dispatched by region, for every address; in a good state it always completes and returns a byte. The word
is decision D1's. -/
def Obligations.BusReadDispatchesByRegion : Prop :=
  ∀ (s : State) (a : Addr),
    decode (txnWord 0x0 a 0) = .decoded (.busRead a) ∧
    exec (.busRead a) s =
      (match region s.cfg a with
        | .ram => exec (.busReadRam a) s
        | .free => exec (.busReadFree a) s
        | .io => exec (.busReadIo a) s
        | .bank => exec (.busReadBank a) s
        | .rom => exec (.busReadRom a) s) ∧
    (s.Inv → ∃ t b, exec (.busRead a) s = .next t ∧ t.result = some b)

/-- R222: BUS_WRITE is dispatched by region, for every address, and always completes. The word is decision D1's. -/
def Obligations.BusWriteDispatchesByRegion : Prop :=
  ∀ (s : State) (a : Addr) (d : Byte),
    decode (txnWord 0x1 a d) = .decoded (.busWrite a d) ∧
    exec (.busWrite a d) s =
      (match region s.cfg a with
        | .ram => exec (.busWriteRam a d) s
        | .free => exec (.busWriteFree a d) s
        | .io => exec (.busWriteIo a d) s
        | .bank => exec (.busWriteBank a d) s
        | .rom => exec (.busWriteRom a d) s) ∧
    (∃ t, exec (.busWrite a d) s = .next t ∧ t.result = none)

/-- A region sub-row whose address lies in another region is refused by name: a term of no word (model's choice, log 11). -/
def Obligations.SubRowOutsideItsRegionIsRefused : Prop :=
  ∀ (s : State) (i : Instr) (r : Region) (a : Addr), i.subRow = some (r, a) → region s.cfg a ≠ r →
    exec i s = .refused .regionMismatch

/-! ## Protected RAM -/

/-- R150: a read of the `RAM` region returns the stored byte, and changes nothing else; protection never applies. The word is
decision D1's. -/
def Obligations.RamReadReturnsTheStoredByte : Prop :=
  ∀ (s : State) (a : Addr), a.toNat < s.cfg.ramSize →
    decode (txnWord 0x0 a 0) = .decoded (.busRead a) ∧
    exec (.busReadRam a) s = .next { s with result := some (s.ramByte a.toNat) } ∧
    exec (.busRead a) s = .next { s with result := some (s.ramByte a.toNat) }

/-- R151: a write of the `RAM` region samples the two protection inputs; it stores the byte when protection is inactive or the
offset does not have every bit of the mask, and otherwise stores nothing and emits the diagnostic. Nothing else changes but the
answers used up. The word is decision D1's. The mask's width is decision D8; the answers, logs 4 and 5. -/
def Obligations.RamWriteStoresUnlessProtected : Prop :=
  ∀ (s : State) (a : Addr) (d : Byte) (i : Instr), a.toNat < s.cfg.ramSize → i = .busWrite a d ∨ i = .busWriteRam a d →
    decode (txnWord 0x1 a d) = .decoded (.busWrite a d) ∧
    (s.answerProtActive = false ∨ a &&& s.afterProtActive.answerProtMask ≠ s.afterProtActive.answerProtMask →
      ∃ t, exec i s = .next t ∧ t.ramByte a.toNat = d ∧ (∀ o, o ≠ a.toNat → t.ramByte o = s.ramByte o) ∧
        t = { s.afterProtActive.afterProtMask with ram := t.ram, result := none }) ∧
    (s.answerProtActive = true → a &&& s.afterProtActive.answerProtMask = s.afterProtActive.answerProtMask →
      exec i s =
        .next { s.afterProtActive.afterProtMask with
          trace := s.trace ++ [.diagProtViolation a s.afterProtActive.answerProtMask], result := none })

/-- The two protection inputs are the controller's next answers, each used once by a write of the `RAM` region and otherwise left
alone (41_protected_ram.md section 3; the answers' lists are the model's choice, log 4). -/
def Obligations.ProtectionIsSampledOncePerWrite : Prop :=
  ∀ (s : State) (a : Addr) (d : Byte) (p : Bool) (ps : List Bool) (m : Addr) (ms : List Addr),
    a.toNat < s.cfg.ramSize → s.answers.protActive = p :: ps → s.answers.protMask = m :: ms →
    ∃ t, exec (.busWrite a d) s = .next t ∧
      t.ramByte a.toNat = (if p = true ∧ a &&& m = m then s.ramByte a.toNat else d) ∧
      t.trace = s.trace ++ (if p = true ∧ a &&& m = m then [.diagProtViolation a m] else []) ∧
      t.answers = { s.answers with protActive := ps, protMask := ms } ∧ t.drawn = s.drawn

/-! ## Free RAM -/

/-- R223: a read of the `FREE` region returns the stored byte, and changes nothing else; a byte never written since power-on or
reset reads a free value. The word is decision D1's. The free value is log 6. -/
def Obligations.FreeReadReturnsTheStoredByte : Prop :=
  ∀ (s : State) (a : Addr), s.cfg.freeBase ≤ a.toNat → a.toNat < s.cfg.ioBase →
    decode (txnWord 0x0 a 0) = .decoded (.busRead a) ∧
    exec (.busReadFree a) s = .next { s with result := some (s.freeByte (a.toNat - s.cfg.freeBase)) } ∧
    exec (.busRead a) s = .next { s with result := some (s.freeByte (a.toNat - s.cfg.freeBase)) } ∧
    (s.free.lookup (a.toNat - s.cfg.freeBase) = none →
      s.freeByte (a.toNat - s.cfg.freeBase) = Config.freeRam s.freeEpoch (a.toNat - s.cfg.freeBase))

/-- R224: a write of the `FREE` region stores the byte, whatever the protection inputs, which are not consulted. The word is
decision D1's. -/
def Obligations.FreeWriteStoresUnprotected : Prop :=
  ∀ (s : State) (a : Addr) (d : Byte) (i : Instr), s.cfg.freeBase ≤ a.toNat → a.toNat < s.cfg.ioBase →
    i = .busWrite a d ∨ i = .busWriteFree a d →
    decode (txnWord 0x1 a d) = .decoded (.busWrite a d) ∧
    ∃ t, exec i s = .next t ∧ t.freeByte (a.toNat - s.cfg.freeBase) = d ∧
      (∀ o, o ≠ a.toNat - s.cfg.freeBase → t.freeByte o = s.freeByte o) ∧ t = { s with free := t.free, result := none }

/-! ## The controller's window -/

/-- A read of the `IO` region is forwarded to the controller with the offset in the window, and returns the controller's answer; the
block's own state does not change (44_bus_router.md section 2, decision D10; the answer, log 4). -/
def Obligations.IoReadIsForwarded : Prop :=
  ∀ (s : State) (a : Addr) (i : Instr), s.cfg.wf = true → s.cfg.ioBase ≤ a.toNat → a.toNat < s.cfg.bankBase →
    i = .busRead a ∨ i = .busReadIo a →
    (∀ v vs, s.answers.ctlRead = v :: vs →
      exec i s =
        .next { s with trace := s.trace ++ [.ctlRead (a.toNat - s.cfg.ioBase)], result := some v,
                       answers := { s.answers with ctlRead := vs } }) ∧
    (s.answers.ctlRead = [] →
      exec i s =
        .next { s with trace := s.trace ++ [.ctlRead (a.toNat - s.cfg.ioBase)],
                       result := some (Config.freeValue 8 s.drawn), drawn := s.drawn + 1 })

/-- A write of the `IO` region is forwarded to the controller; the block's own state does not change (44_bus_router.md section 2,
decision D10). -/
def Obligations.IoWriteIsForwarded : Prop :=
  ∀ (s : State) (a : Addr) (d : Byte) (i : Instr), s.cfg.wf = true → s.cfg.ioBase ≤ a.toNat → a.toNat < s.cfg.bankBase →
    i = .busWrite a d ∨ i = .busWriteIo a d →
    exec i s = .next { s with trace := s.trace ++ [.ctlWrite (a.toNat - s.cfg.ioBase) d], result := none }

/-! ## The banked window and the fixed ROM -/

/-- R134: in a good state a read of the `BANK` region returns the byte of the current slice at the window offset, and changes
nothing else. The word is decision D1's. -/
def Obligations.WindowReadReturnsTheSliceByte : Prop :=
  ∀ (s : State) (a : Addr), s.Inv → s.cfg.bankBase ≤ a.toNat → a.toNat < s.cfg.romBase →
    decode (txnWord 0x0 a 0) = .decoded (.busRead a) ∧
    ∃ b, s.cfg.imageByte (s.cfg.baseOffset + s.curBank * s.cfg.bankSize + (a.toNat - s.cfg.bankBase)) = some b ∧
      exec (.busReadBank a) s = .next { s with result := some b } ∧
      exec (.busRead a) s = .next { s with result := some b }

/-- A read of the `ROM` region returns the image byte at its fixed place, and changes nothing else, whatever the bank
(44_bus_router.md section 2; where the region lies in the image is a parameter, decision D6). -/
def Obligations.RomReadReturnsTheFixedByte : Prop :=
  ∀ (s : State) (a : Addr), s.cfg.wf = true → s.cfg.romBase ≤ a.toNat →
    ∃ b, s.cfg.imageByte (s.cfg.fixedRomOffset + (a.toNat - s.cfg.romBase)) = some b ∧
      ∀ n, exec (.busReadRom a) { s with curBank := n } = .next { s with curBank := n, result := some b } ∧
        exec (.busRead a) { s with curBank := n } = .next { s with curBank := n, result := some b }

/-- A write of the `BANK` or the `ROM` region changes nothing and emits nothing (40_banked_rom.md section 3, 44_bus_router.md section
2; decision D9). -/
def Obligations.WritesToRomChangeNothing : Prop :=
  ∀ (s : State) (a : Addr) (d : Byte), s.cfg.wf = true → s.cfg.bankBase ≤ a.toNat →
    exec (.busWrite a d) s = .next { s with result := none } ∧
    (a.toNat < s.cfg.romBase → exec (.busWriteBank a d) s = .next { s with result := none }) ∧
    (s.cfg.romBase ≤ a.toNat → exec (.busWriteRom a d) s = .next { s with result := none })

/-- R133: BANK_SELECT stores the bank index masked with `BANK_MASK`, never refuses one, emits nothing and changes nothing else.
The word is decision D1's. The index's width is decision D7. -/
def Obligations.BankSelectStoresTheMaskedIndex : Prop :=
  ∀ (s : State) (d : Byte),
    decode (txnWord 0x2 0 d) = .decoded (.bankSelect d) ∧
    exec (.bankSelect d) s =
      .next { s with curBank := d.toNat &&& ((s.cfg.imageSize - s.cfg.baseOffset) / s.cfg.bankSize - 1), result := none }

/-- Selecting `n` and selecting `n & BANK_MASK` are the same, and what is selected is a configured slice that lies in the image
(40_banked_rom.md sections 1 and 4, the spec's own derivations). -/
def Obligations.BankSelectIsIdempotentUnderMasking : Prop :=
  ∀ (s : State) (d : Byte), s.cfg.wf = true →
    exec (.bankSelect d) s = exec (.bankSelect (BitVec.ofNat 8 (d.toNat &&& s.cfg.bankMask))) s ∧
    ∃ t, exec (.bankSelect d) s = .next t ∧ t.curBank ≤ s.cfg.bankMask ∧ t.curBank < s.cfg.bankCount ∧
      s.cfg.baseOffset + (t.curBank + 1) * s.cfg.bankSize ≤ s.cfg.imageSize

/-- The window shows exactly one slice at a time: in a good state its `BANK_SIZE` bytes are slice `CUR_BANK` in order, and right after
any BANK_SELECT they are the selected slice (40_banked_rom.md sections 1 and 4, the spec's own derivation). -/
def Obligations.WindowShowsTheSelectedSlice : Prop :=
  ∀ (s : State) (k : Nat), s.Inv → k < s.cfg.bankSize →
    (∃ b, s.cfg.imageByte (s.cfg.baseOffset + s.curBank * s.cfg.bankSize + k) = some b ∧
      s.byteAt (BitVec.ofNat 16 (s.cfg.bankBase + k)) = some b) ∧
    ∀ d : Byte, ∃ t u b, exec (.bankSelect d) s = .next t ∧
      exec (.busRead (BitVec.ofNat 16 (s.cfg.bankBase + k))) t = .next u ∧ u.result = some b ∧
      s.cfg.imageByte (s.cfg.baseOffset + (d.toNat &&& s.cfg.bankMask) * s.cfg.bankSize + k) = some b

/-! ## Memory as a whole -/

/-- A read of `RAM`, `FREE`, `BANK` or `ROM` changes no state and emits nothing, and reading again returns the same byte
(20_memory.md section 2, the spec's own derivation). -/
def Obligations.ReadsHaveNoSideEffects : Prop :=
  ∀ (s t : State) (a : Addr), region s.cfg a ≠ .io → exec (.busRead a) s = .next t →
    t = { s with result := t.result } ∧ t.result = s.byteAt a ∧ exec (.busRead a) t = .next t

/-- A read returns the byte of the latest write: after a BUS_WRITE that stores, a BUS_READ of the same address returns that byte
(20_memory.md section 5, the spec's own derivation). -/
def Obligations.ReadAfterWriteReturnsTheByte : Prop :=
  ∀ (s : State) (a : Addr) (d : Byte),
    (region s.cfg a = .ram → isProtected s.answerProtActive s.afterProtActive.answerProtMask a = false →
      ∃ t u, exec (.busWrite a d) s = .next t ∧ exec (.busRead a) t = .next u ∧ u.result = some d) ∧
    (region s.cfg a = .free →
      ∃ t u, exec (.busWrite a d) s = .next t ∧ exec (.busRead a) t = .next u ∧ u.result = some d)

/-- The frame of BUS_WRITE and of its five sub-rows: only the byte at the address itself can change, and only where the write stores
(`FREE`, or `RAM` and not protected); every other byte the block shows, the bank register, the lines, the counters, the digits
and the timers' schedule are as before (20_memory.md section 2, decision D9 for the ROM regions). -/
def Obligations.BusWriteChangesOnlyTheStoredByte : Prop :=
  ∀ (s t : State) (a : Addr) (d : Byte) (i : Instr),
    i ∈ [.busWrite a d, .busWriteRam a d, .busWriteFree a d, .busWriteIo a d, .busWriteBank a d, .busWriteRom a d] →
    exec i s = .next t →
    (∀ b, (b ≠ a ∨ ¬ (region s.cfg a = .free ∨ region s.cfg a = .ram ∧
        isProtected s.answerProtActive s.afterProtActive.answerProtMask a = false)) → t.byteAt b = s.byteAt b) ∧
    t.cfg = s.cfg ∧ t.curBank = s.curBank ∧ t.irqLine = s.irqLine ∧ t.firqLine = s.firqLine ∧
    t.frameCount = s.frameCount ∧ t.irqCount = s.irqCount ∧ t.digitOut = s.digitOut ∧ t.nextFrame = s.nextFrame ∧
    t.nextIrq = s.nextIrq ∧ t.freeEpoch = s.freeEpoch

/-- Every transaction but BUS_WRITE, BANK_SELECT and RESET leaves every byte the block shows as it was; BANK_SELECT leaves every byte
outside the banked window; RESET leaves every byte of the fixed high ROM (10_state.md section 9, the spec's own summary). -/
def Obligations.NonStoringTransactionsKeepEveryByte : Prop :=
  ∀ (s t : State) (i : Instr) (b : Addr), exec i s = .next t →
    ((∀ a d, i.transaction ≠ .busWrite a d) → (∀ d, i ≠ .bankSelect d) → i ≠ .reset → t.byteAt b = s.byteAt b) ∧
    ((∃ d, i = .bankSelect d) → region s.cfg b ≠ .bank → t.byteAt b = s.byteAt b) ∧
    (i = .reset → region s.cfg b = .rom → t.byteAt b = s.byteAt b)

/-! ## Timers -/

/-- FRAME_TICK: each digit position gets the permuted answer to its own query, in order; the trace gets the queries and then the
clear; the frame is counted modulo 2^16 and the timer's next firing is one period later; nothing else changes but the answers
used up. Under a well-formed configuration there is one position for each of the `DIGIT_COUNT` digits, and position `k` queries
index `DIGIT_SOURCE(k)` (42_timers.md sections 1 and 3; the order of the queries is decision D11; the answers, logs 4 and 5; the
schedule, log 9). -/
def Obligations.FrameTickLatchesClearsAndCounts : Prop :=
  ∀ s : State, ∃ t, exec .frameTick s = .next t ∧
    t.digitOut.length = s.cfg.digitQueries.length ∧
    (∀ k, k < s.cfg.digitQueries.length →
      t.digitOut[k]? =
        some (perm ((s.answers.segment[k]?).getD
          (Config.freeValue 16 (s.drawn + (k - s.answers.segment.length)))))) ∧
    (s.cfg.wf = true →
      s.cfg.digitQueries.length = s.cfg.digitCount ∧
      ∀ k, k < s.cfg.digitCount → ∃ j, s.cfg.digitSource[k]? = some j ∧
        t.trace[s.trace.length + k]? = some (.ctlQuerySegment j)) ∧
    t = { s with
      digitOut := t.digitOut
      trace := s.trace ++ s.cfg.digitQueries.map .ctlQuerySegment ++ [.ctlClearSegments]
      frameCount := s.frameCount + 1
      nextFrame := s.nextFrame + framePeriod
      answers := { s.answers with segment := s.answers.segment.drop s.cfg.digitQueries.length }
      drawn := s.drawn + (s.cfg.digitQueries.length - s.answers.segment.length)
      result := none }

/-- The segment permutation, bit by bit: output bit `15 - k` is input bit `L[k]` (42_timers.md section 1; the direction is decision
D12). -/
def Obligations.PermTakesEachOutputBitFromItsInputBit : Prop :=
  ∀ (v : BitVec 16) (k : Nat) (j : Nat), [15, 7, 12, 10, 8, 14, 13, 9, 11, 6, 5, 4, 3, 2, 1, 0][k]? = some j →
    (perm v).getLsbD (15 - k) = v.getLsbD j

/-- IRQ_TICK asserts the standard interrupt line, asserted already or not, and counts modulo 2^32; it emits nothing, and nothing
else changes but its timer's next firing, one period later (42_timers.md sections 2 and 3, 10_state.md section 7; the rate is
decision D18; the unit of time, and that an issued tick moves the schedule, log 9). The word is decision D1's. -/
def Obligations.IrqTickAssertsAndCounts : Prop :=
  decode (txnWord 0x6 0 0) = .decoded .irqTick ∧
  ∀ s : State, exec .irqTick s =
    .next { s with irqLine := true, irqCount := s.irqCount + 1, nextIrq := s.nextIrq + irqPeriod, result := none }

/-- Any number `n >= 1` of interrupt ticks issued in a row leave the line asserted and add `n` to the count, modulo 2^32
(42_timers.md section 4, the spec's own derivation). -/
def Obligations.RepeatedIrqTicksKeepTheLineAsserted : Prop :=
  ∀ (s : State) (n : Nat), s.cfg.wf = true → 0 < n →
    ∃ t, Sys2Proof.core.run n { s with inputs := List.replicate n ⟨none, encode .irqTick⟩ ++ s.inputs } = .next t ∧
      t.irqLine = true ∧ t.irqCount = s.irqCount + BitVec.ofNat 32 n ∧ t.inputs = s.inputs ∧ t.firqLine = s.firqLine

/-- The firings of the two timers commute: in either order they lead to the same state (20_memory.md section 5, the spec's own
derivation). -/
def Obligations.TimerFiringsCommute : Prop :=
  ∀ s : State, ∃ t t' u,
    exec .frameTick s = .next t ∧ exec .irqTick t = .next u ∧
    exec .irqTick s = .next t' ∧ exec .frameTick t' = .next u

/-! ## Sound -/

/-- R191: SND_CTRL_READ returns the primary coprocessor's byte, and zero under the legacy protocol and with no coprocessor. The
word is decision D1's. The answers are logs 4 and 5. -/
def Obligations.SoundCtrlReadByCase : Prop :=
  decode (txnWord 0x7 0 0) = .decoded .sndCtrlRead ∧
  ∀ s : State,
    (s.cfg.soundPresent = true → s.cfg.soundVariant = .primary →
      (∀ v vs, s.answers.priCtrlRead = v :: vs →
        exec .sndCtrlRead s =
          .next { s with trace := s.trace ++ [.priCtrlRead], result := some v,
                         answers := { s.answers with priCtrlRead := vs } }) ∧
      (s.answers.priCtrlRead = [] →
        exec .sndCtrlRead s =
          .next { s with trace := s.trace ++ [.priCtrlRead], result := some (Config.freeValue 8 s.drawn),
                         drawn := s.drawn + 1 })) ∧
    (s.cfg.soundPresent = false ∨ s.cfg.soundVariant = .legacy → exec .sndCtrlRead s = .next { s with result := some 0 })

/-- SND_CTRL_WRITE: forwarded to the primary coprocessor; under the legacy protocol the byte is latched and then the trigger is pulsed;
nothing with no coprocessor (43_sound_bridge.md section 1; the pulse is decision D13). -/
def Obligations.SoundCtrlWriteByCase : Prop :=
  ∀ (s : State) (b : Byte),
    exec (.sndCtrlWrite b) s =
      .next { s with
        trace := s.trace ++ (match s.cfg.soundPresent, s.cfg.soundVariant with
          | true, .primary => [.priCtrlWrite b]
          | true, .legacy => [.legData b, .legTrigger true]
          | false, _ => [])
        result := none }

/-- R193: SND_DATA_READ returns the primary coprocessor's byte, and zero under the legacy protocol and with no coprocessor. The
word is decision D1's. The answers are logs 4 and 5. -/
def Obligations.SoundDataReadByCase : Prop :=
  decode (txnWord 0x9 0 0) = .decoded .sndDataRead ∧
  ∀ s : State,
    (s.cfg.soundPresent = true → s.cfg.soundVariant = .primary →
      (∀ v vs, s.answers.priDataRead = v :: vs →
        exec .sndDataRead s =
          .next { s with trace := s.trace ++ [.priDataRead], result := some v,
                         answers := { s.answers with priDataRead := vs } }) ∧
      (s.answers.priDataRead = [] →
        exec .sndDataRead s =
          .next { s with trace := s.trace ++ [.priDataRead], result := some (Config.freeValue 8 s.drawn),
                         drawn := s.drawn + 1 })) ∧
    (s.cfg.soundPresent = false ∨ s.cfg.soundVariant = .legacy → exec .sndDataRead s = .next { s with result := some 0 })

/-- R194: SND_DATA_WRITE is forwarded to the primary coprocessor; under the legacy protocol the byte is latched, untriggered;
nothing with no coprocessor. The word is decision D1's. -/
def Obligations.SoundDataWriteByCase : Prop :=
  ∀ (s : State) (b : Byte),
    decode (txnWord 0xA 0 b) = .decoded (.sndDataWrite b) ∧
    exec (.sndDataWrite b) s =
      .next { s with
        trace := s.trace ++ (match s.cfg.soundPresent, s.cfg.soundVariant with
          | true, .primary => [.priDataWrite b]
          | true, .legacy => [.legData b]
          | false, _ => [])
        result := none }

/-- SND_STROBE_WRITE: a complete latch, pulse, unpulse cycle under the legacy protocol, and nothing else (43_sound_bridge.md section 1;
that it does nothing under the primary protocol is the spec's own derivation; the pulse is decision D13). -/
def Obligations.SoundStrobeWriteByCase : Prop :=
  ∀ (s : State) (b : Byte),
    exec (.sndStrobeWrite b) s =
      .next { s with
        trace := s.trace ++ (match s.cfg.soundPresent, s.cfg.soundVariant with
          | true, .primary => []
          | true, .legacy => [.legData b, .legTrigger true, .legTrigger false]
          | false, _ => [])
        result := none }

/-- SND_REPLY asserts the fast interrupt line, asserted already or not, when a primary coprocessor is configured, and is refused when
none is (43_sound_bridge.md section 2, decision D14). -/
def Obligations.SoundReplyAssertsTheFastLine : Prop :=
  ∀ s : State,
    (s.cfg.soundPresent = true → s.cfg.soundVariant = .primary →
      exec .sndReply s = .next { s with firqLine := true, result := none }) ∧
    (s.cfg.soundPresent = false ∨ s.cfg.soundVariant = .legacy → exec .sndReply s = .refused .noReplySource)

/-- Under the legacy protocol a byte is latched before every pulse: in whatever one instruction emits, a latch precedes each
`triggerPulse(true)`; and a strobe emits what a data write emits and then a pulse and an unpulse (43_sound_bridge.md section 3,
the spec's own derivations; the pulse is decision D13). -/
def Obligations.LegacyLatchPrecedesEveryPulse : Prop :=
  (∀ (s t : State) (i : Instr) (es pre post : List Event), s.cfg.soundPresent = true → s.cfg.soundVariant = .legacy →
    exec i s = .next t →
    t.trace = s.trace ++ es → es = pre ++ .legTrigger true :: post → ∃ b, .legData b ∈ pre) ∧
  (∀ (s : State) (b : Byte), s.cfg.soundPresent = true → s.cfg.soundVariant = .legacy →
    ∃ t u, exec (.sndStrobeWrite b) s = .next t ∧ exec (.sndDataWrite b) s = .next u ∧
      t = { u with trace := u.trace ++ [.legTrigger true, .legTrigger false] })

/-! ## The interrupt lines -/

/-- R229: IRQ_CLEAR de-asserts the standard interrupt line, emits nothing and changes nothing else. The word is decision D1's.
-/
def Obligations.IrqClearDeassertsTheLine : Prop :=
  decode (txnWord 0x3 0 0) = .decoded .irqClear ∧
  ∀ s : State, exec .irqClear s = .next { s with irqLine := false, result := none }

/-- R230: FIRQ_CLEAR de-asserts the fast interrupt line, emits nothing and changes nothing else. The word is decision D1's. -/
def Obligations.FirqClearDeassertsTheLine : Prop :=
  decode (txnWord 0x4 0 0) = .decoded .firqClear ∧
  ∀ s : State, exec .firqClear s = .next { s with firqLine := false, result := none }

/-- Over all instructions: but for RESET, the standard line is asserted only by IRQ_TICK and cleared only by IRQ_CLEAR, and the fast
line asserted only by SND_REPLY and cleared only by FIRQ_CLEAR (10_state.md section 3, 60_exceptions.md section 2; that RESET draws
them is decision D17). -/
def Obligations.OnlyTheNamedTransactionsMoveTheLines : Prop :=
  ∀ (s t : State) (i : Instr), exec i s = .next t → i ≠ .reset →
    (s.irqLine = false → t.irqLine = true → i = .irqTick) ∧
    (s.irqLine = true → t.irqLine = false → i = .irqClear) ∧
    (s.firqLine = false → t.firqLine = true → i = .sndReply) ∧
    (s.firqLine = true → t.firqLine = false → i = .firqClear)

/-- The two lines are independent: an instruction that does not write a line runs the same whatever that line's level and carries it
through, and RESET reads neither (10_state.md section 3, decision D15). -/
def Obligations.InterruptLinesAreIndependent : Prop :=
  ∀ (s t : State) (i : Instr) (b b' : Bool), exec i s = .next t →
    (i ∉ [.sndReply, .firqClear, .reset] → exec i { s with firqLine := b } = .next { t with firqLine := b }) ∧
    (i ∉ [.irqTick, .irqClear, .reset] → exec i { s with irqLine := b } = .next { t with irqLine := b }) ∧
    exec .reset { s with irqLine := b, firqLine := b' } = exec .reset s

/-! ## Reset and the reserved rows -/

/-- RESET clears the protected RAM, the bank register and both counters, and leaves the configuration, the timers' schedule and the
trace; each line, each digit and the free RAM are drawn afresh, every one its own free value (70_reset_and_hazards.md section 1;
the draws are decision D17, logs 6 and 7). -/
def Obligations.ResetClearsAndDraws : Prop :=
  ∀ s : State, ∃ t, exec .reset s = .next t ∧
    (∀ o, t.ramByte o = 0) ∧ t.curBank = 0 ∧ t.frameCount = 0 ∧ t.irqCount = 0 ∧
    t.irqLine = freeBool s.drawn ∧ t.firqLine = freeBool (s.drawn + 1) ∧
    t.digitOut = drawnDigits (s.drawn + 2) s.cfg.digitCount ∧ t.digitOut.length = s.cfg.digitCount ∧
    (∀ k, k < s.cfg.digitCount → t.digitOut[k]? = some (Config.freeValue 16 (s.drawn + 2 + k))) ∧
    t.drawn = s.drawn + 2 + s.cfg.digitCount ∧
    t.freeEpoch = s.freeEpoch + 1 ∧ (∀ o, t.freeByte o = Config.freeRam (s.freeEpoch + 1) o) ∧
    t.cfg = s.cfg ∧ t.nextFrame = s.nextFrame ∧ t.nextIrq = s.nextIrq ∧ t.trace = s.trace ∧
    t.now = s.now ∧ t.inputs = s.inputs ∧ t.answers = s.answers ∧ t.result = none

/-- Power-on under a well-formed configuration: the protected RAM, the bank register and the counters are zero, both lines clear, every
digit zero, the trace empty, and each timer's first firing one period away (70_reset_and_hazards.md section 1; the lines and the
digits are decision D16, log 8; the schedule, log 9). State.reset is the power-on state of the reference configuration (log 2). -/
def Obligations.PowerOnState : Prop :=
  State.reset = State.initial Config.ref ∧
  ∀ c : Config, c.wf = true → ∃ t, powerOn c = .next t ∧ t.cfg = c ∧
    (∀ o, t.ramByte o = 0) ∧ (∀ o, t.freeByte o = Config.freeRam t.freeEpoch o) ∧ t.curBank = 0 ∧
    t.irqLine = false ∧ t.firqLine = false ∧ t.frameCount = 0 ∧ t.irqCount = 0 ∧
    t.digitOut = List.replicate c.digitCount 0 ∧ t.trace = [] ∧
    t.nextFrame * frameHz = unitsPerSecond ∧ t.nextIrq * irqHz = unitsPerSecond

/-- The two reserved rows are refused, in every state (30_encoding.md section 4, decision D30; log 12). -/
def Obligations.ReservedRowsAreRefused : Prop :=
  ∀ (s : State) (r : BitVec 28),
    exec (.reservedE r) s = .refused .reservedEncoding ∧ exec (.reservedF r) s = .refused .reservedEncoding ∧
    decode (0xE#4 ++ r) = .reservedEncoding ∧ decode (0xF#4 ++ r) = .reservedEncoding

/-! ## Whole-machine rules -/

/-- Every power-on state of a well-formed configuration is a good state, State.reset among them. -/
def Obligations.PowerOnIsAGoodState : Prop :=
  State.reset.Inv ∧ ∀ c : Config, c.wf = true → (State.initial c).Inv

/-- Every step keeps the invariant: the configuration well formed, `CUR_BANK` masked, both memories canonical and inside their
regions, one digit per position, and the timers' firings whole periods apart (10_state.md sections 1, 2, 5 and 7). -/
def Obligations.StepKeepsTheInvariant : Prop :=
  ∀ s t : State, s.Inv → step s = .next t → t.Inv

/-- R34: `CUR_BANK & BANK_MASK = CUR_BANK` in every state reached from power-on, under every well-formed configuration, whatever is
issued and whatever the collaborators answer. -/
def Obligations.ReachableBankIsMasked : Prop :=
  ∀ (c : Config) (ins : List Input) (ans : Answers) (n : Nat) (t : State), c.wf = true →
    Sys2Proof.core.run n { State.initial c with inputs := ins, answers := ans } = .next t →
    t.curBank &&& t.cfg.bankMask = t.curBank ∧ t.cfg = c

/-- R15: from a good state every step ends in a next state, together with the events it appends to the trace, or in a refusal; it
never faults. -/
def Obligations.NoStepFaultsFromAGoodState : Prop :=
  ∀ s : State, s.Inv →
    (∃ t es, step s = .next t ∧ t.trace = s.trace ++ es) ∨ (∃ r, step s = .refused r)

/-- In a good state no well-formed instruction is refused, but for SND_REPLY with no primary coprocessor: everything completes
(60_exceptions.md section 1, decision D30). -/
def Obligations.WellFormedTransactionsComplete : Prop :=
  ∀ (s : State) (i : Instr), s.Inv → i.wf s.cfg = true →
    (i = .sndReply → s.cfg.soundPresent = true ∧ s.cfg.soundVariant = .primary) → ∃ t, exec i s = .next t

/-- Who writes what, over all instructions and every field: the configuration, the inputs and the time are no transaction's; the bank
register is BANK_SELECT's and RESET's; the standard line is IRQ_TICK's, IRQ_CLEAR's and RESET's, and the fast line SND_REPLY's,
FIRQ_CLEAR's and RESET's; each counter is its tick's and RESET's, and each firing time its tick's; the digits are FRAME_TICK's
and RESET's; the two memories are BUS_WRITE's and RESET's, and the draw of free RAM RESET's; the trace only grows; exactly the
reads return a byte; each list of answers is used up by its own query's transaction only; and a free value is drawn only by
those and by RESET (10_state.md section 9, the spec's own summary; 30_encoding.md section 2, decision D1; logs 3 to 7). -/
def Obligations.EachFieldHasItsOwnWriters : Prop :=
  ∀ (s t : State) (i : Instr), exec i s = .next t →
    t.cfg = s.cfg ∧ t.inputs = s.inputs ∧ t.now = s.now ∧
    ((∀ d, i ≠ .bankSelect d) → i ≠ .reset → t.curBank = s.curBank) ∧
    (i ∉ [.irqTick, .irqClear, .reset] → t.irqLine = s.irqLine) ∧
    (i ∉ [.sndReply, .firqClear, .reset] → t.firqLine = s.firqLine) ∧
    (i ≠ .frameTick → i ≠ .reset → t.frameCount = s.frameCount ∧ t.digitOut = s.digitOut) ∧
    (i ≠ .frameTick → t.nextFrame = s.nextFrame) ∧
    (i ≠ .irqTick → i ≠ .reset → t.irqCount = s.irqCount) ∧
    (i ≠ .irqTick → t.nextIrq = s.nextIrq) ∧
    ((∀ a d, i.transaction ≠ .busWrite a d) → i ≠ .reset → t.ram = s.ram ∧ t.free = s.free) ∧
    (i ≠ .reset → t.freeEpoch = s.freeEpoch) ∧
    s.trace <+: t.trace ∧
    (t.result.isSome = true ↔ (∃ a, i.transaction = .busRead a) ∨ i = .sndCtrlRead ∨ i = .sndDataRead) ∧
    ((∀ a d, i.transaction ≠ .busWrite a d) →
      t.answers.protActive = s.answers.protActive ∧ t.answers.protMask = s.answers.protMask) ∧
    (i ≠ .frameTick → t.answers.segment = s.answers.segment) ∧
    ((∀ a, i.transaction ≠ .busRead a) → t.answers.ctlRead = s.answers.ctlRead) ∧
    (i ≠ .sndCtrlRead → t.answers.priCtrlRead = s.answers.priCtrlRead) ∧
    (i ≠ .sndDataRead → t.answers.priDataRead = s.answers.priDataRead) ∧
    t.answers.timerFirst = s.answers.timerFirst ∧ t.answers.inputOrder = s.answers.inputOrder ∧
    s.drawn ≤ t.drawn ∧
    ((∀ a, i.transaction ≠ .busRead a) → (∀ a d, i.transaction ≠ .busWrite a d) →
      i ∉ [.frameTick, .sndCtrlRead, .sndDataRead, .reset] → t.drawn = s.drawn)

/-- Events take place in the order of time: no step runs past a timer's firing or an input that is due earlier, and the time never
goes back. Every power-on state is in order, whatever inputs are issued to it in whatever order (20_memory.md section 5,
42_timers.md section 3; decision D18; log 9). -/
def Obligations.EveryStepKeepsTheOrderOfTime : Prop :=
  (∀ (c : Config) (ins : List Input) (ans : Answers), { State.initial c with inputs := ins, answers := ans }.InOrder) ∧
  ∀ s t : State, s.InOrder → step s = .next t → t.InOrder ∧ s.now ≤ t.now

/-- With no input a step fires the timer that is due, at its time: that timer's next firing is one period later and its counter goes
up, the other timer's are as before, and the order of time is kept (42_timers.md section 3, 10_state.md section 7; the rate
is decision D18; logs 9 and 10). -/
def Obligations.QuietStepFiresTheDueTimer : Prop :=
  ∀ s : State, s.cfg.wf = true → s.inputs = [] → s.now ≤ s.nextFrame → s.now ≤ s.nextIrq →
    ∃ t, step s = .next t ∧ t.cfg = s.cfg ∧ t.inputs = [] ∧ t.now ≤ t.nextFrame ∧ t.now ≤ t.nextIrq ∧
      (s.nextFrame < s.nextIrq ∨ s.nextFrame = s.nextIrq ∧ s.cfg.frameTimerFirst = true →
        t.now = s.nextFrame ∧ t.nextFrame = s.nextFrame + framePeriod ∧ t.frameCount = s.frameCount + 1 ∧
        t.nextIrq = s.nextIrq ∧ t.irqCount = s.irqCount ∧ t.irqLine = s.irqLine) ∧
      (s.nextIrq < s.nextFrame ∨ s.nextIrq = s.nextFrame ∧ s.cfg.frameTimerFirst = false →
        t.now = s.nextIrq ∧ t.nextIrq = s.nextIrq + irqPeriod ∧ t.irqCount = s.irqCount + 1 ∧ t.irqLine = true ∧
        t.nextFrame = s.nextFrame ∧ t.frameCount = s.frameCount ∧ t.digitOut = s.digitOut)
end

