-- ==== Sys2Proof/Laws/Decode.lean ====
section
/-! SUPPORT. The fields of a word built from fields, and a word rebuilt from its fields. -/

namespace Sys2Proof

@[simp] theorem opField_txnWord (op : BitVec 4) (a : Addr) (d : Byte) : opField (txnWord op a d) = op := by
  apply BitVec.eq_of_getLsbD_eq
  intro i hi
  simp only [opField, txnWord, BitVec.getLsbD_extractLsb', BitVec.getLsbD_append]
  have h1 : ¬ 28 + i < 8 := by omega
  have h2 : ¬ 28 + i - 8 < 16 := by omega
  have h3 : ¬ 28 + i - 8 - 16 < 4 := by omega
  simp [hi, h1, h2, h3, show 28 + i - 8 - 16 - 4 = i by omega]

@[simp] theorem rsvField_txnWord (op : BitVec 4) (a : Addr) (d : Byte) : rsvField (txnWord op a d) = 0 := by
  apply BitVec.eq_of_getLsbD_eq
  intro i hi
  simp only [rsvField, txnWord, BitVec.getLsbD_extractLsb', BitVec.getLsbD_append]
  have h1 : ¬ 24 + i < 8 := by omega
  have h2 : ¬ 24 + i - 8 < 16 := by omega
  have h3 : 24 + i - 8 - 16 < 4 := by omega
  simp [h1, h2, h3]

@[simp] theorem addrField_txnWord (op : BitVec 4) (a : Addr) (d : Byte) : addrField (txnWord op a d) = a := by
  apply BitVec.eq_of_getLsbD_eq
  intro i hi
  simp only [addrField, txnWord, BitVec.getLsbD_extractLsb', BitVec.getLsbD_append]
  have h1 : ¬ 8 + i < 8 := by omega
  simp [hi, h1]

@[simp] theorem dataField_txnWord (op : BitVec 4) (a : Addr) (d : Byte) : dataField (txnWord op a d) = d := by
  apply BitVec.eq_of_getLsbD_eq
  intro i hi
  simp only [dataField, txnWord, BitVec.getLsbD_extractLsb', BitVec.getLsbD_append]
  simp [hi]

/-- A word with `RSV` = 0 is the word of its other three fields (30_encoding.md rule R101). -/
theorem txnWord_fields (w : Word) (h : rsvField w = 0) : txnWord (opField w) (addrField w) (dataField w) = w := by
  apply BitVec.eq_of_getLsbD_eq
  intro i hi
  simp only [txnWord, opField, addrField, dataField, BitVec.getLsbD_append, BitVec.getLsbD_extractLsb']
  by_cases h8 : i < 8
  · simp [h8]
  · by_cases h24 : i - 8 < 16
    · simp [h8, h24, show 8 + (i - 8) = i by omega]
    · by_cases h28 : i - 8 - 16 < 4
      · have hb := congrArg (fun v => v.getLsbD (i - 24)) h
        simp only [rsvField, BitVec.getLsbD_extractLsb'] at hb
        rw [show 24 + (i - 24) = i by omega] at hb
        have : i - 24 < 4 := by omega
        simp [this] at hb
        simp [h8, h24, h28, hb]
      · simp [h8, h24, h28, show 28 + (i - 8 - 16 - 4) = i by omega]
        omega

end Sys2Proof
end

