-- ==== Sys2Proof/Laws/Memory.lean ====
section
/-! SUPPORT. The laws of sparse memories: a read after a write, that a write leaves every other byte alone, and that every memory
operation keeps the canonical form. None needs the canonical form as a hypothesis but the ones that conclude it. -/

namespace Sys2Proof.Machine

@[simp] theorem Memory.lookup_nil (a : Nat) : Memory.lookup [] a = none := rfl

theorem Memory.lookup_insert_self (m : Memory) (a : Nat) (v : Byte) : (m.insert a v).lookup a = some v := by
  induction m with
  | nil => simp [Memory.insert, Memory.lookup]
  | cons c m ih =>
    obtain ⟨b, w⟩ := c
    simp only [Memory.insert]
    split
    · simp [Memory.lookup]
    · split
      · simp [Memory.lookup]
      · simp [Memory.lookup, *]

theorem Memory.lookup_insert_ne (m : Memory) {a b : Nat} (v : Byte) (h : b ≠ a) :
    (m.insert a v).lookup b = m.lookup b := by
  induction m with
  | nil => simp [Memory.insert, Memory.lookup, h.symm]
  | cons c m ih =>
    obtain ⟨k, w⟩ := c
    simp only [Memory.insert]
    split
    · simp [Memory.lookup, h.symm]
    · split
      · subst_vars; simp [Memory.lookup, h.symm]
      · simp [Memory.lookup, ih]

theorem Memory.lookup_erase_self (m : Memory) (a : Nat) : (m.erase a).lookup a = none := by
  induction m with
  | nil => rfl
  | cons c m ih =>
    obtain ⟨b, w⟩ := c
    by_cases h : b = a <;> simp_all [Memory.erase, Memory.lookup]

theorem Memory.lookup_erase_ne (m : Memory) {a b : Nat} (h : b ≠ a) : (m.erase a).lookup b = m.lookup b := by
  induction m with
  | nil => rfl
  | cons c m ih =>
    obtain ⟨k, w⟩ := c
    by_cases hk : k = a
    · subst hk; simp_all [Memory.erase, Memory.lookup, h.symm]
    · simp_all [Memory.erase, Memory.lookup]

/-- A read of a byte just stored, whatever unlisted bytes read as. -/
theorem Memory.lookup_store_self (fill : Option Byte) (m : Memory) (a : Nat) (v : Byte) :
    ((m.store fill a v).lookup a).or fill = some v := by
  unfold Memory.store
  split
  · simp_all [Memory.lookup_erase_self]
  · simp [Memory.lookup_insert_self]

/-- A store leaves every other byte alone. -/
theorem Memory.lookup_store_ne (fill : Option Byte) (m : Memory) {a b : Nat} (v : Byte) (h : b ≠ a) :
    (m.store fill a v).lookup b = m.lookup b := by
  unfold Memory.store
  split
  · exact Memory.lookup_erase_ne m h
  · exact Memory.lookup_insert_ne m v h

theorem Memory.mem_insert {m : Memory} {a : Nat} {v : Byte} {c : Host.Cell} (h : c ∈ m.insert a v) :
    c = (a, v) ∨ c ∈ m := by
  induction m with
  | nil => simpa [Memory.insert] using h
  | cons d m ih =>
    obtain ⟨b, w⟩ := d
    simp only [Memory.insert] at h
    split at h
    · simpa using h
    · split at h
      · simp only [List.mem_cons] at h ⊢
        tauto
      · simp only [List.mem_cons] at h ⊢
        rcases h with h | h
        · exact Or.inr (Or.inl h)
        · rcases ih h with h | h
          · exact Or.inl h
          · exact Or.inr (Or.inr h)

theorem Memory.pairwise_insert {m : Memory} (a : Nat) (v : Byte) (h : m.Pairwise (fun x y => x.1 < y.1)) :
    (m.insert a v).Pairwise (fun x y => x.1 < y.1) := by
  induction m with
  | nil => simp [Memory.insert]
  | cons d m ih =>
    obtain ⟨b, w⟩ := d
    rw [List.pairwise_cons] at h
    simp only [Memory.insert]
    split
    · rename_i hab
      refine List.pairwise_cons.2 ⟨fun c hc => ?_, List.pairwise_cons.2 h⟩
      rcases List.mem_cons.1 hc with rfl | hc
      · exact hab
      · exact Nat.lt_trans hab (h.1 c hc)
    · split
      · rename_i _ hba
        subst hba
        exact List.pairwise_cons.2 h
      · refine List.pairwise_cons.2 ⟨fun c hc => ?_, ih h.2⟩
        rcases Memory.mem_insert hc with rfl | hc
        · simp only; omega
        · exact h.1 c hc

/-- Storing inside a memory keeps its canonical form. -/
theorem Memory.wf_store {fill : Option Byte} {size : Nat} {m : Memory} {a : Nat} (v : Byte) (hm : Memory.wf fill size m)
    (ha : a < size) : Memory.wf fill size (m.store fill a v) := by
  unfold Memory.store
  split
  · exact ⟨hm.1.filter _, fun c hc => hm.2 c (List.mem_filter.1 hc).1⟩
  · rename_i hv
    refine ⟨Memory.pairwise_insert a v hm.1, fun c hc => ?_⟩
    rcases Memory.mem_insert hc with rfl | hc
    · exact ⟨ha, hv⟩
    · exact hm.2 c hc

theorem Memory.wf_nil (fill : Option Byte) (size : Nat) : Memory.wf fill size [] := by
  simp [Memory.wf]

/-! ## The two memories -/

@[simp] theorem State.storeRam_ramByte_self (s : State) (o : Nat) (v : Byte) : (s.storeRam o v).ramByte o = v := by
  simp [State.ramByte, State.storeRam, Memory.lookup_store_self]

theorem State.storeRam_ramByte_ne (s : State) {o k : Nat} (v : Byte) (h : k ≠ o) :
    (s.storeRam o v).ramByte k = s.ramByte k := by
  simp [State.ramByte, State.storeRam, Memory.lookup_store_ne _ _ _ h]

@[simp] theorem State.storeFree_freeByte_self (s : State) (o : Nat) (v : Byte) : (s.storeFree o v).freeByte o = v := by
  simp [State.freeByte, State.storeFree, Memory.lookup_store_self]

theorem State.storeFree_freeByte_ne (s : State) {o k : Nat} (v : Byte) (h : k ≠ o) :
    (s.storeFree o v).freeByte k = s.freeByte k := by
  simp [State.freeByte, State.storeFree, Memory.lookup_store_ne _ _ _ h]

/-- A `RAM` byte that nothing has written since the last reset reads 0 (10_state.md rule R30). -/
theorem State.ramByte_of_unlisted {s : State} {o : Nat} (h : s.ram.lookup o = none) : s.ramByte o = 0 := by
  simp [State.ramByte, h, unlisted]

/-- A `FREE` byte that nothing has written since the last reset reads the free value of the draw in force (R31). -/
theorem State.freeByte_of_unlisted {s : State} {o : Nat} (h : s.free.lookup o = none) :
    s.freeByte o = Config.freeRam s.freeEpoch o := by
  simp [State.freeByte, h, unlisted]

end Sys2Proof.Machine
end

