-- ==== Sys2Proof/Laws/Params.lean ====
section
/-! SUPPORT. The laws of configurations and images: the nine conditions of a well-formed configuration as arithmetic facts, which image
indexes hold a byte, and that every selectable slice lies in the image. -/

namespace Sys2Proof

theorem runsByte_isSome (rs : List Run) (i : Nat) : (runsByte rs i).isSome = true ↔ i < runsSize rs := by
  induction rs generalizing i with
  | nil => simp [runsByte, runsSize]
  | cons r rs ih =>
    simp only [runsByte, runsSize]
    split
    · simp; omega
    · rw [ih]; omega

/-- `IMAGE[i]` exists exactly for `0 <= i < IMAGE_SIZE`. -/
theorem Config.imageByte_isSome (c : Config) (i : Nat) : (c.imageByte i).isSome = true ↔ i < c.imageSize :=
  runsByte_isSome c.image i

theorem Config.imageByte_eq_some (c : Config) {i : Nat} (h : i < c.imageSize) : ∃ b, c.imageByte i = some b :=
  Option.isSome_iff_exists.1 ((c.imageByte_isSome i).2 h)

/-- The facts of R10 that a well-formed configuration gives, by name. -/
structure Config.Facts (c : Config) : Prop where
  free_pos : 0 < c.freeBase
  free_lt_io : c.freeBase < c.ioBase
  io_lt_bank : c.ioBase < c.bankBase
  bank_lt_rom : c.bankBase < c.romBase
  rom_lt_top : c.romBase < 2 ^ 16
  window_eq_bank : c.romBase - c.bankBase = c.bankSize
  bank_pos : 0 < c.bankSize
  image_has_bank : c.baseOffset + c.bankSize ≤ c.imageSize
  mask_lt_count : c.bankMask < c.bankCount
  banks_in_image : c.baseOffset + (c.bankMask + 1) * c.bankSize ≤ c.imageSize
  rom_in_image : c.fixedRomOffset + (2 ^ 16 - c.romBase) ≤ c.imageSize
  ram_le_mask : c.freeBase ≤ 2 ^ 16
  independent : c.replyGatesIrq = false
  sources : c.digitCount ≤ c.digitSource.length

theorem Config.facts {c : Config} (h : c.wf = true) : c.Facts := by
  simp only [Config.wf, Config.wf1, Config.wf2, Config.wf3, Config.wf4, Config.wf5, Config.wf6, Config.wf7, Config.wf8,
    Config.wf9, Config.windowSize, Config.ramSize, Bool.and_eq_true, decide_eq_true_eq, beq_iff_eq,
    Bool.not_eq_true'] at h
  obtain ⟨⟨⟨⟨⟨⟨⟨⟨⟨h1, h2, h3, h4, h5⟩, h6⟩, h7, h8⟩, h9⟩, h10⟩, h11⟩, h12⟩, h13⟩, h14⟩ := h
  exact ⟨h1, h2, h3, h4, h5, h6, h7, h8, h9, h10, h11, of_decide_eq_true h12, h13, h14⟩

/-- Every byte of a selectable slice lies in the image (40_banked_rom.md rule R132). -/
theorem Config.slice_in_image {c : Config} (hc : c.wf = true) {k o : Nat} (hk : k ≤ c.bankMask) (ho : o < c.bankSize) :
    c.baseOffset + k * c.bankSize + o < c.imageSize := by
  have hf := (Config.facts hc).banks_in_image
  have hm : k * c.bankSize ≤ c.bankMask * c.bankSize := Nat.mul_le_mul_right _ hk
  rw [Nat.add_mul, Nat.one_mul] at hf
  omega

/-- A masked value is at most the mask. -/
theorem masked_le {n m : Nat} (h : n &&& m = n) : n ≤ m := h ▸ Nat.and_le_right

theorem Config.digitQueries_length {c : Config} (h : c.wf = true) : c.digitQueries.length = c.digitCount := by
  have := (Config.facts h).sources
  simp [Config.digitQueries, this]

/-! ## Regions (44_bus_router.md rule R220) -/

theorem region_ram {c : Config} {a : Addr} (h : a.toNat < c.freeBase) : region c a = .ram := by simp [region, h]

theorem region_free {c : Config} {a : Addr} (h : c.freeBase ≤ a.toNat) (h' : a.toNat < c.ioBase) : region c a = .free := by
  simp [region, Nat.not_lt.2 h, h']

theorem region_io {c : Config} (hc : c.wf = true) {a : Addr} (h : c.ioBase ≤ a.toNat) (h' : a.toNat < c.bankBase) :
    region c a = .io := by
  have := Config.facts hc
  have h1 := this.free_lt_io
  simp [region, Nat.not_lt.2 h, h', show ¬ a.toNat < c.freeBase by omega]

theorem region_bank {c : Config} (hc : c.wf = true) {a : Addr} (h : c.bankBase ≤ a.toNat) (h' : a.toNat < c.romBase) :
    region c a = .bank := by
  have := Config.facts hc
  have h1 := this.free_lt_io
  have h2 := this.io_lt_bank
  simp [region, Nat.not_lt.2 h, h', show ¬ a.toNat < c.freeBase by omega, show ¬ a.toNat < c.ioBase by omega]

theorem region_rom {c : Config} (hc : c.wf = true) {a : Addr} (h : c.romBase ≤ a.toNat) : region c a = .rom := by
  have := Config.facts hc
  have h1 := this.free_lt_io
  have h2 := this.io_lt_bank
  have h3 := this.bank_lt_rom
  simp [region, Nat.not_lt.2 h, show ¬ a.toNat < c.freeBase by omega, show ¬ a.toNat < c.ioBase by omega,
    show ¬ a.toNat < c.bankBase by omega]

/-- What each region says of an address, whatever the configuration. -/
theorem region_bounds (c : Config) (a : Addr) :
    match region c a with
    | .ram => a.toNat < c.freeBase
    | .free => c.freeBase ≤ a.toNat ∧ a.toNat < c.ioBase
    | .io => c.ioBase ≤ a.toNat ∧ a.toNat < c.bankBase
    | .bank => c.bankBase ≤ a.toNat ∧ a.toNat < c.romBase
    | .rom => c.romBase ≤ a.toNat := by
  unfold region
  by_cases h1 : a.toNat < c.freeBase
  · simp [h1]
  · by_cases h2 : a.toNat < c.ioBase
    · simp [h1, h2]; omega
    · by_cases h3 : a.toNat < c.bankBase
      · simp [h1, h2, h3]; omega
      · by_cases h4 : a.toNat < c.romBase
        · simp [h1, h2, h3, h4]; omega
        · simp [h1, h2, h3, h4]; omega

end Sys2Proof
end

