-- ==== Sys2Proof/Laws/State.lean ====
section
/-! SUPPORT. The projections of every named update of the state: one lemma per field per update, and for an update that leaves the
block's storage alone, that every byte the block shows is as before. -/

namespace Sys2Proof.Machine

/-! ## `storeRam` -/

@[simp] theorem State.storeRam_cfg (s : State) (o : Nat) (v : Byte) : (s.storeRam o v).cfg = s.cfg := rfl
@[simp] theorem State.storeRam_ram (s : State) (o : Nat) (v : Byte) :
    (s.storeRam o v).ram = s.ram.store (unlisted .ram) o v := rfl
@[simp] theorem State.storeRam_free (s : State) (o : Nat) (v : Byte) : (s.storeRam o v).free = s.free := rfl
@[simp] theorem State.storeRam_freeEpoch (s : State) (o : Nat) (v : Byte) : (s.storeRam o v).freeEpoch = s.freeEpoch := rfl
@[simp] theorem State.storeRam_curBank (s : State) (o : Nat) (v : Byte) : (s.storeRam o v).curBank = s.curBank := rfl
@[simp] theorem State.storeRam_irqLine (s : State) (o : Nat) (v : Byte) : (s.storeRam o v).irqLine = s.irqLine := rfl
@[simp] theorem State.storeRam_firqLine (s : State) (o : Nat) (v : Byte) : (s.storeRam o v).firqLine = s.firqLine := rfl
@[simp] theorem State.storeRam_frameCount (s : State) (o : Nat) (v : Byte) :
    (s.storeRam o v).frameCount = s.frameCount := rfl
@[simp] theorem State.storeRam_irqCount (s : State) (o : Nat) (v : Byte) : (s.storeRam o v).irqCount = s.irqCount := rfl
@[simp] theorem State.storeRam_digitOut (s : State) (o : Nat) (v : Byte) : (s.storeRam o v).digitOut = s.digitOut := rfl
@[simp] theorem State.storeRam_nextFrame (s : State) (o : Nat) (v : Byte) : (s.storeRam o v).nextFrame = s.nextFrame := rfl
@[simp] theorem State.storeRam_nextIrq (s : State) (o : Nat) (v : Byte) : (s.storeRam o v).nextIrq = s.nextIrq := rfl
@[simp] theorem State.storeRam_trace (s : State) (o : Nat) (v : Byte) : (s.storeRam o v).trace = s.trace := rfl
@[simp] theorem State.storeRam_result (s : State) (o : Nat) (v : Byte) : (s.storeRam o v).result = s.result := rfl
@[simp] theorem State.storeRam_now (s : State) (o : Nat) (v : Byte) : (s.storeRam o v).now = s.now := rfl
@[simp] theorem State.storeRam_inputs (s : State) (o : Nat) (v : Byte) : (s.storeRam o v).inputs = s.inputs := rfl
@[simp] theorem State.storeRam_answers (s : State) (o : Nat) (v : Byte) : (s.storeRam o v).answers = s.answers := rfl
@[simp] theorem State.storeRam_drawn (s : State) (o : Nat) (v : Byte) : (s.storeRam o v).drawn = s.drawn := rfl
@[simp] theorem State.storeRam_freeByte (s : State) (o : Nat) (v : Byte) (k : Nat) :
    (s.storeRam o v).freeByte k = s.freeByte k := rfl
@[simp] theorem State.storeRam_bankIndex (s : State) (o : Nat) (v : Byte) (a : Addr) :
    (s.storeRam o v).bankIndex a = s.bankIndex a := rfl
@[simp] theorem State.storeRam_romIndex (s : State) (o : Nat) (v : Byte) (a : Addr) :
    (s.storeRam o v).romIndex a = s.romIndex a := rfl

/-! ## `storeFree` -/

@[simp] theorem State.storeFree_cfg (s : State) (o : Nat) (v : Byte) : (s.storeFree o v).cfg = s.cfg := rfl
@[simp] theorem State.storeFree_ram (s : State) (o : Nat) (v : Byte) : (s.storeFree o v).ram = s.ram := rfl
@[simp] theorem State.storeFree_free (s : State) (o : Nat) (v : Byte) :
    (s.storeFree o v).free = s.free.store (unlisted .free) o v := rfl
@[simp] theorem State.storeFree_freeEpoch (s : State) (o : Nat) (v : Byte) : (s.storeFree o v).freeEpoch = s.freeEpoch := rfl
@[simp] theorem State.storeFree_curBank (s : State) (o : Nat) (v : Byte) : (s.storeFree o v).curBank = s.curBank := rfl
@[simp] theorem State.storeFree_irqLine (s : State) (o : Nat) (v : Byte) : (s.storeFree o v).irqLine = s.irqLine := rfl
@[simp] theorem State.storeFree_firqLine (s : State) (o : Nat) (v : Byte) : (s.storeFree o v).firqLine = s.firqLine := rfl
@[simp] theorem State.storeFree_frameCount (s : State) (o : Nat) (v : Byte) :
    (s.storeFree o v).frameCount = s.frameCount := rfl
@[simp] theorem State.storeFree_irqCount (s : State) (o : Nat) (v : Byte) : (s.storeFree o v).irqCount = s.irqCount := rfl
@[simp] theorem State.storeFree_digitOut (s : State) (o : Nat) (v : Byte) : (s.storeFree o v).digitOut = s.digitOut := rfl
@[simp] theorem State.storeFree_nextFrame (s : State) (o : Nat) (v : Byte) : (s.storeFree o v).nextFrame = s.nextFrame := rfl
@[simp] theorem State.storeFree_nextIrq (s : State) (o : Nat) (v : Byte) : (s.storeFree o v).nextIrq = s.nextIrq := rfl
@[simp] theorem State.storeFree_trace (s : State) (o : Nat) (v : Byte) : (s.storeFree o v).trace = s.trace := rfl
@[simp] theorem State.storeFree_result (s : State) (o : Nat) (v : Byte) : (s.storeFree o v).result = s.result := rfl
@[simp] theorem State.storeFree_now (s : State) (o : Nat) (v : Byte) : (s.storeFree o v).now = s.now := rfl
@[simp] theorem State.storeFree_inputs (s : State) (o : Nat) (v : Byte) : (s.storeFree o v).inputs = s.inputs := rfl
@[simp] theorem State.storeFree_answers (s : State) (o : Nat) (v : Byte) : (s.storeFree o v).answers = s.answers := rfl
@[simp] theorem State.storeFree_drawn (s : State) (o : Nat) (v : Byte) : (s.storeFree o v).drawn = s.drawn := rfl
@[simp] theorem State.storeFree_ramByte (s : State) (o : Nat) (v : Byte) (k : Nat) :
    (s.storeFree o v).ramByte k = s.ramByte k := rfl
@[simp] theorem State.storeFree_bankIndex (s : State) (o : Nat) (v : Byte) (a : Addr) :
    (s.storeFree o v).bankIndex a = s.bankIndex a := rfl
@[simp] theorem State.storeFree_romIndex (s : State) (o : Nat) (v : Byte) (a : Addr) :
    (s.storeFree o v).romIndex a = s.romIndex a := rfl

/-! ## `setBank` -/

@[simp] theorem State.setBank_cfg (s : State) (n : Nat) : (s.setBank n).cfg = s.cfg := rfl
@[simp] theorem State.setBank_ram (s : State) (n : Nat) : (s.setBank n).ram = s.ram := rfl
@[simp] theorem State.setBank_free (s : State) (n : Nat) : (s.setBank n).free = s.free := rfl
@[simp] theorem State.setBank_freeEpoch (s : State) (n : Nat) : (s.setBank n).freeEpoch = s.freeEpoch := rfl
@[simp] theorem State.setBank_curBank (s : State) (n : Nat) : (s.setBank n).curBank = n := rfl
@[simp] theorem State.setBank_irqLine (s : State) (n : Nat) : (s.setBank n).irqLine = s.irqLine := rfl
@[simp] theorem State.setBank_firqLine (s : State) (n : Nat) : (s.setBank n).firqLine = s.firqLine := rfl
@[simp] theorem State.setBank_frameCount (s : State) (n : Nat) : (s.setBank n).frameCount = s.frameCount := rfl
@[simp] theorem State.setBank_irqCount (s : State) (n : Nat) : (s.setBank n).irqCount = s.irqCount := rfl
@[simp] theorem State.setBank_digitOut (s : State) (n : Nat) : (s.setBank n).digitOut = s.digitOut := rfl
@[simp] theorem State.setBank_nextFrame (s : State) (n : Nat) : (s.setBank n).nextFrame = s.nextFrame := rfl
@[simp] theorem State.setBank_nextIrq (s : State) (n : Nat) : (s.setBank n).nextIrq = s.nextIrq := rfl
@[simp] theorem State.setBank_trace (s : State) (n : Nat) : (s.setBank n).trace = s.trace := rfl
@[simp] theorem State.setBank_result (s : State) (n : Nat) : (s.setBank n).result = s.result := rfl
@[simp] theorem State.setBank_now (s : State) (n : Nat) : (s.setBank n).now = s.now := rfl
@[simp] theorem State.setBank_inputs (s : State) (n : Nat) : (s.setBank n).inputs = s.inputs := rfl
@[simp] theorem State.setBank_answers (s : State) (n : Nat) : (s.setBank n).answers = s.answers := rfl
@[simp] theorem State.setBank_drawn (s : State) (n : Nat) : (s.setBank n).drawn = s.drawn := rfl
@[simp] theorem State.setBank_ramByte (s : State) (n : Nat) (k : Nat) : (s.setBank n).ramByte k = s.ramByte k := rfl
@[simp] theorem State.setBank_freeByte (s : State) (n : Nat) (k : Nat) : (s.setBank n).freeByte k = s.freeByte k := rfl
@[simp] theorem State.setBank_romIndex (s : State) (n : Nat) (a : Addr) : (s.setBank n).romIndex a = s.romIndex a := rfl

/-! ## `emit` -/

@[simp] theorem State.emit_cfg (s : State) (e : Event) : (s.emit e).cfg = s.cfg := rfl
@[simp] theorem State.emit_ram (s : State) (e : Event) : (s.emit e).ram = s.ram := rfl
@[simp] theorem State.emit_free (s : State) (e : Event) : (s.emit e).free = s.free := rfl
@[simp] theorem State.emit_freeEpoch (s : State) (e : Event) : (s.emit e).freeEpoch = s.freeEpoch := rfl
@[simp] theorem State.emit_curBank (s : State) (e : Event) : (s.emit e).curBank = s.curBank := rfl
@[simp] theorem State.emit_irqLine (s : State) (e : Event) : (s.emit e).irqLine = s.irqLine := rfl
@[simp] theorem State.emit_firqLine (s : State) (e : Event) : (s.emit e).firqLine = s.firqLine := rfl
@[simp] theorem State.emit_frameCount (s : State) (e : Event) : (s.emit e).frameCount = s.frameCount := rfl
@[simp] theorem State.emit_irqCount (s : State) (e : Event) : (s.emit e).irqCount = s.irqCount := rfl
@[simp] theorem State.emit_digitOut (s : State) (e : Event) : (s.emit e).digitOut = s.digitOut := rfl
@[simp] theorem State.emit_nextFrame (s : State) (e : Event) : (s.emit e).nextFrame = s.nextFrame := rfl
@[simp] theorem State.emit_nextIrq (s : State) (e : Event) : (s.emit e).nextIrq = s.nextIrq := rfl
@[simp] theorem State.emit_trace (s : State) (e : Event) : (s.emit e).trace = s.trace ++ [e] := rfl
@[simp] theorem State.emit_result (s : State) (e : Event) : (s.emit e).result = s.result := rfl
@[simp] theorem State.emit_now (s : State) (e : Event) : (s.emit e).now = s.now := rfl
@[simp] theorem State.emit_inputs (s : State) (e : Event) : (s.emit e).inputs = s.inputs := rfl
@[simp] theorem State.emit_answers (s : State) (e : Event) : (s.emit e).answers = s.answers := rfl
@[simp] theorem State.emit_drawn (s : State) (e : Event) : (s.emit e).drawn = s.drawn := rfl
@[simp] theorem State.emit_byteAt (s : State) (e : Event) (a : Addr) : (s.emit e).byteAt a = s.byteAt a := rfl
@[simp] theorem State.emit_ramByte (s : State) (e : Event) (k : Nat) : (s.emit e).ramByte k = s.ramByte k := rfl
@[simp] theorem State.emit_freeByte (s : State) (e : Event) (k : Nat) : (s.emit e).freeByte k = s.freeByte k := rfl
@[simp] theorem State.emit_bankIndex (s : State) (e : Event) (a : Addr) : (s.emit e).bankIndex a = s.bankIndex a := rfl
@[simp] theorem State.emit_romIndex (s : State) (e : Event) (a : Addr) : (s.emit e).romIndex a = s.romIndex a := rfl

/-! ## `setResult` -/

@[simp] theorem State.setResult_cfg (s : State) (r : Option Byte) : (s.setResult r).cfg = s.cfg := rfl
@[simp] theorem State.setResult_ram (s : State) (r : Option Byte) : (s.setResult r).ram = s.ram := rfl
@[simp] theorem State.setResult_free (s : State) (r : Option Byte) : (s.setResult r).free = s.free := rfl
@[simp] theorem State.setResult_freeEpoch (s : State) (r : Option Byte) : (s.setResult r).freeEpoch = s.freeEpoch := rfl
@[simp] theorem State.setResult_curBank (s : State) (r : Option Byte) : (s.setResult r).curBank = s.curBank := rfl
@[simp] theorem State.setResult_irqLine (s : State) (r : Option Byte) : (s.setResult r).irqLine = s.irqLine := rfl
@[simp] theorem State.setResult_firqLine (s : State) (r : Option Byte) : (s.setResult r).firqLine = s.firqLine := rfl
@[simp] theorem State.setResult_frameCount (s : State) (r : Option Byte) : (s.setResult r).frameCount = s.frameCount := rfl
@[simp] theorem State.setResult_irqCount (s : State) (r : Option Byte) : (s.setResult r).irqCount = s.irqCount := rfl
@[simp] theorem State.setResult_digitOut (s : State) (r : Option Byte) : (s.setResult r).digitOut = s.digitOut := rfl
@[simp] theorem State.setResult_nextFrame (s : State) (r : Option Byte) : (s.setResult r).nextFrame = s.nextFrame := rfl
@[simp] theorem State.setResult_nextIrq (s : State) (r : Option Byte) : (s.setResult r).nextIrq = s.nextIrq := rfl
@[simp] theorem State.setResult_trace (s : State) (r : Option Byte) : (s.setResult r).trace = s.trace := rfl
@[simp] theorem State.setResult_result (s : State) (r : Option Byte) : (s.setResult r).result = r := rfl
@[simp] theorem State.setResult_now (s : State) (r : Option Byte) : (s.setResult r).now = s.now := rfl
@[simp] theorem State.setResult_inputs (s : State) (r : Option Byte) : (s.setResult r).inputs = s.inputs := rfl
@[simp] theorem State.setResult_answers (s : State) (r : Option Byte) : (s.setResult r).answers = s.answers := rfl
@[simp] theorem State.setResult_drawn (s : State) (r : Option Byte) : (s.setResult r).drawn = s.drawn := rfl
@[simp] theorem State.setResult_byteAt (s : State) (r : Option Byte) (a : Addr) :
    (s.setResult r).byteAt a = s.byteAt a := rfl
@[simp] theorem State.setResult_ramByte (s : State) (r : Option Byte) (k : Nat) :
    (s.setResult r).ramByte k = s.ramByte k := rfl
@[simp] theorem State.setResult_freeByte (s : State) (r : Option Byte) (k : Nat) :
    (s.setResult r).freeByte k = s.freeByte k := rfl
@[simp] theorem State.setResult_bankIndex (s : State) (r : Option Byte) (a : Addr) :
    (s.setResult r).bankIndex a = s.bankIndex a := rfl
@[simp] theorem State.setResult_romIndex (s : State) (r : Option Byte) (a : Addr) :
    (s.setResult r).romIndex a = s.romIndex a := rfl

/-! ## `setIrqLine` -/

@[simp] theorem State.setIrqLine_cfg (s : State) (b : Bool) : (s.setIrqLine b).cfg = s.cfg := rfl
@[simp] theorem State.setIrqLine_ram (s : State) (b : Bool) : (s.setIrqLine b).ram = s.ram := rfl
@[simp] theorem State.setIrqLine_free (s : State) (b : Bool) : (s.setIrqLine b).free = s.free := rfl
@[simp] theorem State.setIrqLine_freeEpoch (s : State) (b : Bool) : (s.setIrqLine b).freeEpoch = s.freeEpoch := rfl
@[simp] theorem State.setIrqLine_curBank (s : State) (b : Bool) : (s.setIrqLine b).curBank = s.curBank := rfl
@[simp] theorem State.setIrqLine_irqLine (s : State) (b : Bool) : (s.setIrqLine b).irqLine = b := rfl
@[simp] theorem State.setIrqLine_firqLine (s : State) (b : Bool) : (s.setIrqLine b).firqLine = s.firqLine := rfl
@[simp] theorem State.setIrqLine_frameCount (s : State) (b : Bool) : (s.setIrqLine b).frameCount = s.frameCount := rfl
@[simp] theorem State.setIrqLine_irqCount (s : State) (b : Bool) : (s.setIrqLine b).irqCount = s.irqCount := rfl
@[simp] theorem State.setIrqLine_digitOut (s : State) (b : Bool) : (s.setIrqLine b).digitOut = s.digitOut := rfl
@[simp] theorem State.setIrqLine_nextFrame (s : State) (b : Bool) : (s.setIrqLine b).nextFrame = s.nextFrame := rfl
@[simp] theorem State.setIrqLine_nextIrq (s : State) (b : Bool) : (s.setIrqLine b).nextIrq = s.nextIrq := rfl
@[simp] theorem State.setIrqLine_trace (s : State) (b : Bool) : (s.setIrqLine b).trace = s.trace := rfl
@[simp] theorem State.setIrqLine_result (s : State) (b : Bool) : (s.setIrqLine b).result = s.result := rfl
@[simp] theorem State.setIrqLine_now (s : State) (b : Bool) : (s.setIrqLine b).now = s.now := rfl
@[simp] theorem State.setIrqLine_inputs (s : State) (b : Bool) : (s.setIrqLine b).inputs = s.inputs := rfl
@[simp] theorem State.setIrqLine_answers (s : State) (b : Bool) : (s.setIrqLine b).answers = s.answers := rfl
@[simp] theorem State.setIrqLine_drawn (s : State) (b : Bool) : (s.setIrqLine b).drawn = s.drawn := rfl
@[simp] theorem State.setIrqLine_byteAt (s : State) (b : Bool) (a : Addr) : (s.setIrqLine b).byteAt a = s.byteAt a := rfl
@[simp] theorem State.setIrqLine_ramByte (s : State) (b : Bool) (k : Nat) : (s.setIrqLine b).ramByte k = s.ramByte k := rfl
@[simp] theorem State.setIrqLine_freeByte (s : State) (b : Bool) (k : Nat) :
    (s.setIrqLine b).freeByte k = s.freeByte k := rfl
@[simp] theorem State.setIrqLine_bankIndex (s : State) (b : Bool) (a : Addr) :
    (s.setIrqLine b).bankIndex a = s.bankIndex a := rfl
@[simp] theorem State.setIrqLine_romIndex (s : State) (b : Bool) (a : Addr) :
    (s.setIrqLine b).romIndex a = s.romIndex a := rfl

/-! ## `setFirqLine` -/

@[simp] theorem State.setFirqLine_cfg (s : State) (b : Bool) : (s.setFirqLine b).cfg = s.cfg := rfl
@[simp] theorem State.setFirqLine_ram (s : State) (b : Bool) : (s.setFirqLine b).ram = s.ram := rfl
@[simp] theorem State.setFirqLine_free (s : State) (b : Bool) : (s.setFirqLine b).free = s.free := rfl
@[simp] theorem State.setFirqLine_freeEpoch (s : State) (b : Bool) : (s.setFirqLine b).freeEpoch = s.freeEpoch := rfl
@[simp] theorem State.setFirqLine_curBank (s : State) (b : Bool) : (s.setFirqLine b).curBank = s.curBank := rfl
@[simp] theorem State.setFirqLine_irqLine (s : State) (b : Bool) : (s.setFirqLine b).irqLine = s.irqLine := rfl
@[simp] theorem State.setFirqLine_firqLine (s : State) (b : Bool) : (s.setFirqLine b).firqLine = b := rfl
@[simp] theorem State.setFirqLine_frameCount (s : State) (b : Bool) : (s.setFirqLine b).frameCount = s.frameCount := rfl
@[simp] theorem State.setFirqLine_irqCount (s : State) (b : Bool) : (s.setFirqLine b).irqCount = s.irqCount := rfl
@[simp] theorem State.setFirqLine_digitOut (s : State) (b : Bool) : (s.setFirqLine b).digitOut = s.digitOut := rfl
@[simp] theorem State.setFirqLine_nextFrame (s : State) (b : Bool) : (s.setFirqLine b).nextFrame = s.nextFrame := rfl
@[simp] theorem State.setFirqLine_nextIrq (s : State) (b : Bool) : (s.setFirqLine b).nextIrq = s.nextIrq := rfl
@[simp] theorem State.setFirqLine_trace (s : State) (b : Bool) : (s.setFirqLine b).trace = s.trace := rfl
@[simp] theorem State.setFirqLine_result (s : State) (b : Bool) : (s.setFirqLine b).result = s.result := rfl
@[simp] theorem State.setFirqLine_now (s : State) (b : Bool) : (s.setFirqLine b).now = s.now := rfl
@[simp] theorem State.setFirqLine_inputs (s : State) (b : Bool) : (s.setFirqLine b).inputs = s.inputs := rfl
@[simp] theorem State.setFirqLine_answers (s : State) (b : Bool) : (s.setFirqLine b).answers = s.answers := rfl
@[simp] theorem State.setFirqLine_drawn (s : State) (b : Bool) : (s.setFirqLine b).drawn = s.drawn := rfl
@[simp] theorem State.setFirqLine_byteAt (s : State) (b : Bool) (a : Addr) : (s.setFirqLine b).byteAt a = s.byteAt a := rfl
@[simp] theorem State.setFirqLine_ramByte (s : State) (b : Bool) (k : Nat) : (s.setFirqLine b).ramByte k = s.ramByte k := rfl
@[simp] theorem State.setFirqLine_freeByte (s : State) (b : Bool) (k : Nat) :
    (s.setFirqLine b).freeByte k = s.freeByte k := rfl
@[simp] theorem State.setFirqLine_bankIndex (s : State) (b : Bool) (a : Addr) :
    (s.setFirqLine b).bankIndex a = s.bankIndex a := rfl
@[simp] theorem State.setFirqLine_romIndex (s : State) (b : Bool) (a : Addr) :
    (s.setFirqLine b).romIndex a = s.romIndex a := rfl

/-! ## `countFrame` -/

@[simp] theorem State.countFrame_cfg (s : State) : s.countFrame.cfg = s.cfg := rfl
@[simp] theorem State.countFrame_ram (s : State) : s.countFrame.ram = s.ram := rfl
@[simp] theorem State.countFrame_free (s : State) : s.countFrame.free = s.free := rfl
@[simp] theorem State.countFrame_freeEpoch (s : State) : s.countFrame.freeEpoch = s.freeEpoch := rfl
@[simp] theorem State.countFrame_curBank (s : State) : s.countFrame.curBank = s.curBank := rfl
@[simp] theorem State.countFrame_irqLine (s : State) : s.countFrame.irqLine = s.irqLine := rfl
@[simp] theorem State.countFrame_firqLine (s : State) : s.countFrame.firqLine = s.firqLine := rfl
@[simp] theorem State.countFrame_frameCount (s : State) : s.countFrame.frameCount = s.frameCount + 1 := rfl
@[simp] theorem State.countFrame_irqCount (s : State) : s.countFrame.irqCount = s.irqCount := rfl
@[simp] theorem State.countFrame_digitOut (s : State) : s.countFrame.digitOut = s.digitOut := rfl
@[simp] theorem State.countFrame_nextFrame (s : State) : s.countFrame.nextFrame = s.nextFrame + framePeriod := rfl
@[simp] theorem State.countFrame_nextIrq (s : State) : s.countFrame.nextIrq = s.nextIrq := rfl
@[simp] theorem State.countFrame_trace (s : State) : s.countFrame.trace = s.trace := rfl
@[simp] theorem State.countFrame_result (s : State) : s.countFrame.result = s.result := rfl
@[simp] theorem State.countFrame_now (s : State) : s.countFrame.now = s.now := rfl
@[simp] theorem State.countFrame_inputs (s : State) : s.countFrame.inputs = s.inputs := rfl
@[simp] theorem State.countFrame_answers (s : State) : s.countFrame.answers = s.answers := rfl
@[simp] theorem State.countFrame_drawn (s : State) : s.countFrame.drawn = s.drawn := rfl
@[simp] theorem State.countFrame_byteAt (s : State) (a : Addr) : s.countFrame.byteAt a = s.byteAt a := rfl
@[simp] theorem State.countFrame_ramByte (s : State) (k : Nat) : s.countFrame.ramByte k = s.ramByte k := rfl
@[simp] theorem State.countFrame_freeByte (s : State) (k : Nat) : s.countFrame.freeByte k = s.freeByte k := rfl
@[simp] theorem State.countFrame_bankIndex (s : State) (a : Addr) : s.countFrame.bankIndex a = s.bankIndex a := rfl
@[simp] theorem State.countFrame_romIndex (s : State) (a : Addr) : s.countFrame.romIndex a = s.romIndex a := rfl

/-! ## `countIrq` -/

@[simp] theorem State.countIrq_cfg (s : State) : s.countIrq.cfg = s.cfg := rfl
@[simp] theorem State.countIrq_ram (s : State) : s.countIrq.ram = s.ram := rfl
@[simp] theorem State.countIrq_free (s : State) : s.countIrq.free = s.free := rfl
@[simp] theorem State.countIrq_freeEpoch (s : State) : s.countIrq.freeEpoch = s.freeEpoch := rfl
@[simp] theorem State.countIrq_curBank (s : State) : s.countIrq.curBank = s.curBank := rfl
@[simp] theorem State.countIrq_irqLine (s : State) : s.countIrq.irqLine = s.irqLine := rfl
@[simp] theorem State.countIrq_firqLine (s : State) : s.countIrq.firqLine = s.firqLine := rfl
@[simp] theorem State.countIrq_frameCount (s : State) : s.countIrq.frameCount = s.frameCount := rfl
@[simp] theorem State.countIrq_irqCount (s : State) : s.countIrq.irqCount = s.irqCount + 1 := rfl
@[simp] theorem State.countIrq_digitOut (s : State) : s.countIrq.digitOut = s.digitOut := rfl
@[simp] theorem State.countIrq_nextFrame (s : State) : s.countIrq.nextFrame = s.nextFrame := rfl
@[simp] theorem State.countIrq_nextIrq (s : State) : s.countIrq.nextIrq = s.nextIrq + irqPeriod := rfl
@[simp] theorem State.countIrq_trace (s : State) : s.countIrq.trace = s.trace := rfl
@[simp] theorem State.countIrq_result (s : State) : s.countIrq.result = s.result := rfl
@[simp] theorem State.countIrq_now (s : State) : s.countIrq.now = s.now := rfl
@[simp] theorem State.countIrq_inputs (s : State) : s.countIrq.inputs = s.inputs := rfl
@[simp] theorem State.countIrq_answers (s : State) : s.countIrq.answers = s.answers := rfl
@[simp] theorem State.countIrq_drawn (s : State) : s.countIrq.drawn = s.drawn := rfl
@[simp] theorem State.countIrq_byteAt (s : State) (a : Addr) : s.countIrq.byteAt a = s.byteAt a := rfl
@[simp] theorem State.countIrq_ramByte (s : State) (k : Nat) : s.countIrq.ramByte k = s.ramByte k := rfl
@[simp] theorem State.countIrq_freeByte (s : State) (k : Nat) : s.countIrq.freeByte k = s.freeByte k := rfl
@[simp] theorem State.countIrq_bankIndex (s : State) (a : Addr) : s.countIrq.bankIndex a = s.bankIndex a := rfl
@[simp] theorem State.countIrq_romIndex (s : State) (a : Addr) : s.countIrq.romIndex a = s.romIndex a := rfl

/-! ## `setDigitOut` -/

@[simp] theorem State.setDigitOut_cfg (s : State) (l : List (BitVec 16)) : (s.setDigitOut l).cfg = s.cfg := rfl
@[simp] theorem State.setDigitOut_ram (s : State) (l : List (BitVec 16)) : (s.setDigitOut l).ram = s.ram := rfl
@[simp] theorem State.setDigitOut_free (s : State) (l : List (BitVec 16)) : (s.setDigitOut l).free = s.free := rfl
@[simp] theorem State.setDigitOut_freeEpoch (s : State) (l : List (BitVec 16)) :
    (s.setDigitOut l).freeEpoch = s.freeEpoch := rfl
@[simp] theorem State.setDigitOut_curBank (s : State) (l : List (BitVec 16)) : (s.setDigitOut l).curBank = s.curBank := rfl
@[simp] theorem State.setDigitOut_irqLine (s : State) (l : List (BitVec 16)) : (s.setDigitOut l).irqLine = s.irqLine := rfl
@[simp] theorem State.setDigitOut_firqLine (s : State) (l : List (BitVec 16)) :
    (s.setDigitOut l).firqLine = s.firqLine := rfl
@[simp] theorem State.setDigitOut_frameCount (s : State) (l : List (BitVec 16)) :
    (s.setDigitOut l).frameCount = s.frameCount := rfl
@[simp] theorem State.setDigitOut_irqCount (s : State) (l : List (BitVec 16)) :
    (s.setDigitOut l).irqCount = s.irqCount := rfl
@[simp] theorem State.setDigitOut_digitOut (s : State) (l : List (BitVec 16)) : (s.setDigitOut l).digitOut = l := rfl
@[simp] theorem State.setDigitOut_nextFrame (s : State) (l : List (BitVec 16)) :
    (s.setDigitOut l).nextFrame = s.nextFrame := rfl
@[simp] theorem State.setDigitOut_nextIrq (s : State) (l : List (BitVec 16)) : (s.setDigitOut l).nextIrq = s.nextIrq := rfl
@[simp] theorem State.setDigitOut_trace (s : State) (l : List (BitVec 16)) : (s.setDigitOut l).trace = s.trace := rfl
@[simp] theorem State.setDigitOut_result (s : State) (l : List (BitVec 16)) : (s.setDigitOut l).result = s.result := rfl
@[simp] theorem State.setDigitOut_now (s : State) (l : List (BitVec 16)) : (s.setDigitOut l).now = s.now := rfl
@[simp] theorem State.setDigitOut_inputs (s : State) (l : List (BitVec 16)) : (s.setDigitOut l).inputs = s.inputs := rfl
@[simp] theorem State.setDigitOut_answers (s : State) (l : List (BitVec 16)) : (s.setDigitOut l).answers = s.answers := rfl
@[simp] theorem State.setDigitOut_drawn (s : State) (l : List (BitVec 16)) : (s.setDigitOut l).drawn = s.drawn := rfl
@[simp] theorem State.setDigitOut_byteAt (s : State) (l : List (BitVec 16)) (a : Addr) :
    (s.setDigitOut l).byteAt a = s.byteAt a := rfl
@[simp] theorem State.setDigitOut_ramByte (s : State) (l : List (BitVec 16)) (k : Nat) :
    (s.setDigitOut l).ramByte k = s.ramByte k := rfl
@[simp] theorem State.setDigitOut_freeByte (s : State) (l : List (BitVec 16)) (k : Nat) :
    (s.setDigitOut l).freeByte k = s.freeByte k := rfl
@[simp] theorem State.setDigitOut_bankIndex (s : State) (l : List (BitVec 16)) (a : Addr) :
    (s.setDigitOut l).bankIndex a = s.bankIndex a := rfl
@[simp] theorem State.setDigitOut_romIndex (s : State) (l : List (BitVec 16)) (a : Addr) :
    (s.setDigitOut l).romIndex a = s.romIndex a := rfl

/-! ## `afterReset` -/

@[simp] theorem State.afterReset_cfg (s : State) : s.afterReset.cfg = s.cfg := rfl
@[simp] theorem State.afterReset_ram (s : State) : s.afterReset.ram = [] := rfl
@[simp] theorem State.afterReset_free (s : State) : s.afterReset.free = [] := rfl
@[simp] theorem State.afterReset_freeEpoch (s : State) : s.afterReset.freeEpoch = s.freeEpoch + 1 := rfl
@[simp] theorem State.afterReset_curBank (s : State) : s.afterReset.curBank = 0 := rfl
@[simp] theorem State.afterReset_irqLine (s : State) : s.afterReset.irqLine = freeBool s.drawn := rfl
@[simp] theorem State.afterReset_firqLine (s : State) : s.afterReset.firqLine = freeBool (s.drawn + 1) := rfl
@[simp] theorem State.afterReset_frameCount (s : State) : s.afterReset.frameCount = 0 := rfl
@[simp] theorem State.afterReset_irqCount (s : State) : s.afterReset.irqCount = 0 := rfl
@[simp] theorem State.afterReset_digitOut (s : State) :
    s.afterReset.digitOut = drawnDigits (s.drawn + 2) s.cfg.digitCount := rfl
@[simp] theorem State.afterReset_nextFrame (s : State) : s.afterReset.nextFrame = s.nextFrame := rfl
@[simp] theorem State.afterReset_nextIrq (s : State) : s.afterReset.nextIrq = s.nextIrq := rfl
@[simp] theorem State.afterReset_trace (s : State) : s.afterReset.trace = s.trace := rfl
@[simp] theorem State.afterReset_result (s : State) : s.afterReset.result = s.result := rfl
@[simp] theorem State.afterReset_now (s : State) : s.afterReset.now = s.now := rfl
@[simp] theorem State.afterReset_inputs (s : State) : s.afterReset.inputs = s.inputs := rfl
@[simp] theorem State.afterReset_answers (s : State) : s.afterReset.answers = s.answers := rfl
@[simp] theorem State.afterReset_drawn (s : State) : s.afterReset.drawn = s.drawn + 2 + s.cfg.digitCount := rfl
@[simp] theorem State.afterReset_romIndex (s : State) (a : Addr) : s.afterReset.romIndex a = s.romIndex a := rfl

/-! ## `advanceTo` -/

@[simp] theorem State.advanceTo_cfg (s : State) (t : Nat) : (s.advanceTo t).cfg = s.cfg := rfl
@[simp] theorem State.advanceTo_ram (s : State) (t : Nat) : (s.advanceTo t).ram = s.ram := rfl
@[simp] theorem State.advanceTo_free (s : State) (t : Nat) : (s.advanceTo t).free = s.free := rfl
@[simp] theorem State.advanceTo_freeEpoch (s : State) (t : Nat) : (s.advanceTo t).freeEpoch = s.freeEpoch := rfl
@[simp] theorem State.advanceTo_curBank (s : State) (t : Nat) : (s.advanceTo t).curBank = s.curBank := rfl
@[simp] theorem State.advanceTo_irqLine (s : State) (t : Nat) : (s.advanceTo t).irqLine = s.irqLine := rfl
@[simp] theorem State.advanceTo_firqLine (s : State) (t : Nat) : (s.advanceTo t).firqLine = s.firqLine := rfl
@[simp] theorem State.advanceTo_frameCount (s : State) (t : Nat) : (s.advanceTo t).frameCount = s.frameCount := rfl
@[simp] theorem State.advanceTo_irqCount (s : State) (t : Nat) : (s.advanceTo t).irqCount = s.irqCount := rfl
@[simp] theorem State.advanceTo_digitOut (s : State) (t : Nat) : (s.advanceTo t).digitOut = s.digitOut := rfl
@[simp] theorem State.advanceTo_nextFrame (s : State) (t : Nat) : (s.advanceTo t).nextFrame = s.nextFrame := rfl
@[simp] theorem State.advanceTo_nextIrq (s : State) (t : Nat) : (s.advanceTo t).nextIrq = s.nextIrq := rfl
@[simp] theorem State.advanceTo_trace (s : State) (t : Nat) : (s.advanceTo t).trace = s.trace := rfl
@[simp] theorem State.advanceTo_result (s : State) (t : Nat) : (s.advanceTo t).result = s.result := rfl
@[simp] theorem State.advanceTo_now (s : State) (t : Nat) : (s.advanceTo t).now = max s.now t := rfl
@[simp] theorem State.advanceTo_inputs (s : State) (t : Nat) : (s.advanceTo t).inputs = s.inputs := rfl
@[simp] theorem State.advanceTo_answers (s : State) (t : Nat) : (s.advanceTo t).answers = s.answers := rfl
@[simp] theorem State.advanceTo_drawn (s : State) (t : Nat) : (s.advanceTo t).drawn = s.drawn := rfl
@[simp] theorem State.advanceTo_byteAt (s : State) (t : Nat) (a : Addr) : (s.advanceTo t).byteAt a = s.byteAt a := rfl
@[simp] theorem State.advanceTo_ramByte (s : State) (t : Nat) (k : Nat) : (s.advanceTo t).ramByte k = s.ramByte k := rfl
@[simp] theorem State.advanceTo_freeByte (s : State) (t : Nat) (k : Nat) : (s.advanceTo t).freeByte k = s.freeByte k := rfl
@[simp] theorem State.advanceTo_bankIndex (s : State) (t : Nat) (a : Addr) :
    (s.advanceTo t).bankIndex a = s.bankIndex a := rfl
@[simp] theorem State.advanceTo_romIndex (s : State) (t : Nat) (a : Addr) : (s.advanceTo t).romIndex a = s.romIndex a := rfl

/-! ## `setInputs` -/

@[simp] theorem State.setInputs_cfg (s : State) (l : List Input) : (s.setInputs l).cfg = s.cfg := rfl
@[simp] theorem State.setInputs_ram (s : State) (l : List Input) : (s.setInputs l).ram = s.ram := rfl
@[simp] theorem State.setInputs_free (s : State) (l : List Input) : (s.setInputs l).free = s.free := rfl
@[simp] theorem State.setInputs_freeEpoch (s : State) (l : List Input) : (s.setInputs l).freeEpoch = s.freeEpoch := rfl
@[simp] theorem State.setInputs_curBank (s : State) (l : List Input) : (s.setInputs l).curBank = s.curBank := rfl
@[simp] theorem State.setInputs_irqLine (s : State) (l : List Input) : (s.setInputs l).irqLine = s.irqLine := rfl
@[simp] theorem State.setInputs_firqLine (s : State) (l : List Input) : (s.setInputs l).firqLine = s.firqLine := rfl
@[simp] theorem State.setInputs_frameCount (s : State) (l : List Input) : (s.setInputs l).frameCount = s.frameCount := rfl
@[simp] theorem State.setInputs_irqCount (s : State) (l : List Input) : (s.setInputs l).irqCount = s.irqCount := rfl
@[simp] theorem State.setInputs_digitOut (s : State) (l : List Input) : (s.setInputs l).digitOut = s.digitOut := rfl
@[simp] theorem State.setInputs_nextFrame (s : State) (l : List Input) : (s.setInputs l).nextFrame = s.nextFrame := rfl
@[simp] theorem State.setInputs_nextIrq (s : State) (l : List Input) : (s.setInputs l).nextIrq = s.nextIrq := rfl
@[simp] theorem State.setInputs_trace (s : State) (l : List Input) : (s.setInputs l).trace = s.trace := rfl
@[simp] theorem State.setInputs_result (s : State) (l : List Input) : (s.setInputs l).result = s.result := rfl
@[simp] theorem State.setInputs_now (s : State) (l : List Input) : (s.setInputs l).now = s.now := rfl
@[simp] theorem State.setInputs_inputs (s : State) (l : List Input) : (s.setInputs l).inputs = l := rfl
@[simp] theorem State.setInputs_answers (s : State) (l : List Input) : (s.setInputs l).answers = s.answers := rfl
@[simp] theorem State.setInputs_drawn (s : State) (l : List Input) : (s.setInputs l).drawn = s.drawn := rfl
@[simp] theorem State.setInputs_byteAt (s : State) (l : List Input) (a : Addr) : (s.setInputs l).byteAt a = s.byteAt a := rfl
@[simp] theorem State.setInputs_ramByte (s : State) (l : List Input) (k : Nat) : (s.setInputs l).ramByte k = s.ramByte k := rfl
@[simp] theorem State.setInputs_freeByte (s : State) (l : List Input) (k : Nat) : (s.setInputs l).freeByte k = s.freeByte k := rfl
@[simp] theorem State.setInputs_bankIndex (s : State) (l : List Input) (a : Addr) : (s.setInputs l).bankIndex a = s.bankIndex a := rfl
@[simp] theorem State.setInputs_romIndex (s : State) (l : List Input) (a : Addr) : (s.setInputs l).romIndex a = s.romIndex a := rfl

/-! ## `withFetchWord` -/

@[simp] theorem State.withFetchWord_cfg (s : State) (nbits w : Nat) : (s.withFetchWord nbits w).cfg = s.cfg := rfl
@[simp] theorem State.withFetchWord_ram (s : State) (nbits w : Nat) : (s.withFetchWord nbits w).ram = s.ram := rfl
@[simp] theorem State.withFetchWord_free (s : State) (nbits w : Nat) : (s.withFetchWord nbits w).free = s.free := rfl
@[simp] theorem State.withFetchWord_freeEpoch (s : State) (nbits w : Nat) :
    (s.withFetchWord nbits w).freeEpoch = s.freeEpoch := rfl
@[simp] theorem State.withFetchWord_curBank (s : State) (nbits w : Nat) :
    (s.withFetchWord nbits w).curBank = s.curBank := rfl
@[simp] theorem State.withFetchWord_irqLine (s : State) (nbits w : Nat) :
    (s.withFetchWord nbits w).irqLine = s.irqLine := rfl
@[simp] theorem State.withFetchWord_firqLine (s : State) (nbits w : Nat) :
    (s.withFetchWord nbits w).firqLine = s.firqLine := rfl
@[simp] theorem State.withFetchWord_frameCount (s : State) (nbits w : Nat) :
    (s.withFetchWord nbits w).frameCount = s.frameCount := rfl
@[simp] theorem State.withFetchWord_irqCount (s : State) (nbits w : Nat) :
    (s.withFetchWord nbits w).irqCount = s.irqCount := rfl
@[simp] theorem State.withFetchWord_digitOut (s : State) (nbits w : Nat) :
    (s.withFetchWord nbits w).digitOut = s.digitOut := rfl
@[simp] theorem State.withFetchWord_nextFrame (s : State) (nbits w : Nat) :
    (s.withFetchWord nbits w).nextFrame = s.nextFrame := rfl
@[simp] theorem State.withFetchWord_nextIrq (s : State) (nbits w : Nat) :
    (s.withFetchWord nbits w).nextIrq = s.nextIrq := rfl
@[simp] theorem State.withFetchWord_trace (s : State) (nbits w : Nat) : (s.withFetchWord nbits w).trace = s.trace := rfl
@[simp] theorem State.withFetchWord_result (s : State) (nbits w : Nat) : (s.withFetchWord nbits w).result = s.result := rfl
@[simp] theorem State.withFetchWord_now (s : State) (nbits w : Nat) : (s.withFetchWord nbits w).now = s.now := rfl
@[simp] theorem State.withFetchWord_inputs (s : State) (nbits w : Nat) :
    (s.withFetchWord nbits w).inputs = ⟨none, BitVec.ofNat 32 (w % 2 ^ nbits)⟩ :: s.inputs := rfl
@[simp] theorem State.withFetchWord_answers (s : State) (nbits w : Nat) :
    (s.withFetchWord nbits w).answers = s.answers := rfl
@[simp] theorem State.withFetchWord_drawn (s : State) (nbits w : Nat) : (s.withFetchWord nbits w).drawn = s.drawn := rfl
@[simp] theorem State.withFetchWord_byteAt (s : State) (nbits w : Nat) (a : Addr) :
    (s.withFetchWord nbits w).byteAt a = s.byteAt a := rfl
@[simp] theorem State.withFetchWord_ramByte (s : State) (nbits w : Nat) (k : Nat) :
    (s.withFetchWord nbits w).ramByte k = s.ramByte k := rfl
@[simp] theorem State.withFetchWord_freeByte (s : State) (nbits w : Nat) (k : Nat) :
    (s.withFetchWord nbits w).freeByte k = s.freeByte k := rfl
@[simp] theorem State.withFetchWord_bankIndex (s : State) (nbits w : Nat) (a : Addr) :
    (s.withFetchWord nbits w).bankIndex a = s.bankIndex a := rfl
@[simp] theorem State.withFetchWord_romIndex (s : State) (nbits w : Nat) (a : Addr) :
    (s.withFetchWord nbits w).romIndex a = s.romIndex a := rfl

/-! ## `afterProtActive` -/

@[simp] theorem State.afterProtActive_cfg (s : State) : s.afterProtActive.cfg = s.cfg := rfl
@[simp] theorem State.afterProtActive_ram (s : State) : s.afterProtActive.ram = s.ram := rfl
@[simp] theorem State.afterProtActive_free (s : State) : s.afterProtActive.free = s.free := rfl
@[simp] theorem State.afterProtActive_freeEpoch (s : State) : s.afterProtActive.freeEpoch = s.freeEpoch := rfl
@[simp] theorem State.afterProtActive_curBank (s : State) : s.afterProtActive.curBank = s.curBank := rfl
@[simp] theorem State.afterProtActive_irqLine (s : State) : s.afterProtActive.irqLine = s.irqLine := rfl
@[simp] theorem State.afterProtActive_firqLine (s : State) : s.afterProtActive.firqLine = s.firqLine := rfl
@[simp] theorem State.afterProtActive_frameCount (s : State) : s.afterProtActive.frameCount = s.frameCount := rfl
@[simp] theorem State.afterProtActive_irqCount (s : State) : s.afterProtActive.irqCount = s.irqCount := rfl
@[simp] theorem State.afterProtActive_digitOut (s : State) : s.afterProtActive.digitOut = s.digitOut := rfl
@[simp] theorem State.afterProtActive_nextFrame (s : State) : s.afterProtActive.nextFrame = s.nextFrame := rfl
@[simp] theorem State.afterProtActive_nextIrq (s : State) : s.afterProtActive.nextIrq = s.nextIrq := rfl
@[simp] theorem State.afterProtActive_trace (s : State) : s.afterProtActive.trace = s.trace := rfl
@[simp] theorem State.afterProtActive_result (s : State) : s.afterProtActive.result = s.result := rfl
@[simp] theorem State.afterProtActive_now (s : State) : s.afterProtActive.now = s.now := rfl
@[simp] theorem State.afterProtActive_inputs (s : State) : s.afterProtActive.inputs = s.inputs := rfl
@[simp] theorem State.afterProtActive_answers (s : State) :
    s.afterProtActive.answers = { s.answers with protActive := s.answers.protActive.tail } := rfl
@[simp] theorem State.afterProtActive_drawn (s : State) :
    s.afterProtActive.drawn = drawnAfter s.answers.protActive s.drawn := rfl
@[simp] theorem State.afterProtActive_byteAt (s : State) (a : Addr) : s.afterProtActive.byteAt a = s.byteAt a := rfl
@[simp] theorem State.afterProtActive_ramByte (s : State) (k : Nat) : s.afterProtActive.ramByte k = s.ramByte k := rfl
@[simp] theorem State.afterProtActive_freeByte (s : State) (k : Nat) : s.afterProtActive.freeByte k = s.freeByte k := rfl
@[simp] theorem State.afterProtActive_bankIndex (s : State) (a : Addr) : s.afterProtActive.bankIndex a = s.bankIndex a := rfl
@[simp] theorem State.afterProtActive_romIndex (s : State) (a : Addr) : s.afterProtActive.romIndex a = s.romIndex a := rfl

/-! ## `afterProtMask` -/

@[simp] theorem State.afterProtMask_cfg (s : State) : s.afterProtMask.cfg = s.cfg := rfl
@[simp] theorem State.afterProtMask_ram (s : State) : s.afterProtMask.ram = s.ram := rfl
@[simp] theorem State.afterProtMask_free (s : State) : s.afterProtMask.free = s.free := rfl
@[simp] theorem State.afterProtMask_freeEpoch (s : State) : s.afterProtMask.freeEpoch = s.freeEpoch := rfl
@[simp] theorem State.afterProtMask_curBank (s : State) : s.afterProtMask.curBank = s.curBank := rfl
@[simp] theorem State.afterProtMask_irqLine (s : State) : s.afterProtMask.irqLine = s.irqLine := rfl
@[simp] theorem State.afterProtMask_firqLine (s : State) : s.afterProtMask.firqLine = s.firqLine := rfl
@[simp] theorem State.afterProtMask_frameCount (s : State) : s.afterProtMask.frameCount = s.frameCount := rfl
@[simp] theorem State.afterProtMask_irqCount (s : State) : s.afterProtMask.irqCount = s.irqCount := rfl
@[simp] theorem State.afterProtMask_digitOut (s : State) : s.afterProtMask.digitOut = s.digitOut := rfl
@[simp] theorem State.afterProtMask_nextFrame (s : State) : s.afterProtMask.nextFrame = s.nextFrame := rfl
@[simp] theorem State.afterProtMask_nextIrq (s : State) : s.afterProtMask.nextIrq = s.nextIrq := rfl
@[simp] theorem State.afterProtMask_trace (s : State) : s.afterProtMask.trace = s.trace := rfl
@[simp] theorem State.afterProtMask_result (s : State) : s.afterProtMask.result = s.result := rfl
@[simp] theorem State.afterProtMask_now (s : State) : s.afterProtMask.now = s.now := rfl
@[simp] theorem State.afterProtMask_inputs (s : State) : s.afterProtMask.inputs = s.inputs := rfl
@[simp] theorem State.afterProtMask_answers (s : State) :
    s.afterProtMask.answers = { s.answers with protMask := s.answers.protMask.tail } := rfl
@[simp] theorem State.afterProtMask_drawn (s : State) : s.afterProtMask.drawn = drawnAfter s.answers.protMask s.drawn := rfl
@[simp] theorem State.afterProtMask_byteAt (s : State) (a : Addr) : s.afterProtMask.byteAt a = s.byteAt a := rfl
@[simp] theorem State.afterProtMask_ramByte (s : State) (k : Nat) : s.afterProtMask.ramByte k = s.ramByte k := rfl
@[simp] theorem State.afterProtMask_freeByte (s : State) (k : Nat) : s.afterProtMask.freeByte k = s.freeByte k := rfl
@[simp] theorem State.afterProtMask_bankIndex (s : State) (a : Addr) : s.afterProtMask.bankIndex a = s.bankIndex a := rfl
@[simp] theorem State.afterProtMask_romIndex (s : State) (a : Addr) : s.afterProtMask.romIndex a = s.romIndex a := rfl

/-! ## `afterSegment` -/

@[simp] theorem State.afterSegment_cfg (s : State) : s.afterSegment.cfg = s.cfg := rfl
@[simp] theorem State.afterSegment_ram (s : State) : s.afterSegment.ram = s.ram := rfl
@[simp] theorem State.afterSegment_free (s : State) : s.afterSegment.free = s.free := rfl
@[simp] theorem State.afterSegment_freeEpoch (s : State) : s.afterSegment.freeEpoch = s.freeEpoch := rfl
@[simp] theorem State.afterSegment_curBank (s : State) : s.afterSegment.curBank = s.curBank := rfl
@[simp] theorem State.afterSegment_irqLine (s : State) : s.afterSegment.irqLine = s.irqLine := rfl
@[simp] theorem State.afterSegment_firqLine (s : State) : s.afterSegment.firqLine = s.firqLine := rfl
@[simp] theorem State.afterSegment_frameCount (s : State) : s.afterSegment.frameCount = s.frameCount := rfl
@[simp] theorem State.afterSegment_irqCount (s : State) : s.afterSegment.irqCount = s.irqCount := rfl
@[simp] theorem State.afterSegment_digitOut (s : State) : s.afterSegment.digitOut = s.digitOut := rfl
@[simp] theorem State.afterSegment_nextFrame (s : State) : s.afterSegment.nextFrame = s.nextFrame := rfl
@[simp] theorem State.afterSegment_nextIrq (s : State) : s.afterSegment.nextIrq = s.nextIrq := rfl
@[simp] theorem State.afterSegment_trace (s : State) : s.afterSegment.trace = s.trace := rfl
@[simp] theorem State.afterSegment_result (s : State) : s.afterSegment.result = s.result := rfl
@[simp] theorem State.afterSegment_now (s : State) : s.afterSegment.now = s.now := rfl
@[simp] theorem State.afterSegment_inputs (s : State) : s.afterSegment.inputs = s.inputs := rfl
@[simp] theorem State.afterSegment_answers (s : State) :
    s.afterSegment.answers = { s.answers with segment := s.answers.segment.tail } := rfl
@[simp] theorem State.afterSegment_drawn (s : State) : s.afterSegment.drawn = drawnAfter s.answers.segment s.drawn := rfl
@[simp] theorem State.afterSegment_byteAt (s : State) (a : Addr) : s.afterSegment.byteAt a = s.byteAt a := rfl
@[simp] theorem State.afterSegment_ramByte (s : State) (k : Nat) : s.afterSegment.ramByte k = s.ramByte k := rfl
@[simp] theorem State.afterSegment_freeByte (s : State) (k : Nat) : s.afterSegment.freeByte k = s.freeByte k := rfl
@[simp] theorem State.afterSegment_bankIndex (s : State) (a : Addr) : s.afterSegment.bankIndex a = s.bankIndex a := rfl
@[simp] theorem State.afterSegment_romIndex (s : State) (a : Addr) : s.afterSegment.romIndex a = s.romIndex a := rfl

/-! ## `afterCtlRead` -/

@[simp] theorem State.afterCtlRead_cfg (s : State) : s.afterCtlRead.cfg = s.cfg := rfl
@[simp] theorem State.afterCtlRead_ram (s : State) : s.afterCtlRead.ram = s.ram := rfl
@[simp] theorem State.afterCtlRead_free (s : State) : s.afterCtlRead.free = s.free := rfl
@[simp] theorem State.afterCtlRead_freeEpoch (s : State) : s.afterCtlRead.freeEpoch = s.freeEpoch := rfl
@[simp] theorem State.afterCtlRead_curBank (s : State) : s.afterCtlRead.curBank = s.curBank := rfl
@[simp] theorem State.afterCtlRead_irqLine (s : State) : s.afterCtlRead.irqLine = s.irqLine := rfl
@[simp] theorem State.afterCtlRead_firqLine (s : State) : s.afterCtlRead.firqLine = s.firqLine := rfl
@[simp] theorem State.afterCtlRead_frameCount (s : State) : s.afterCtlRead.frameCount = s.frameCount := rfl
@[simp] theorem State.afterCtlRead_irqCount (s : State) : s.afterCtlRead.irqCount = s.irqCount := rfl
@[simp] theorem State.afterCtlRead_digitOut (s : State) : s.afterCtlRead.digitOut = s.digitOut := rfl
@[simp] theorem State.afterCtlRead_nextFrame (s : State) : s.afterCtlRead.nextFrame = s.nextFrame := rfl
@[simp] theorem State.afterCtlRead_nextIrq (s : State) : s.afterCtlRead.nextIrq = s.nextIrq := rfl
@[simp] theorem State.afterCtlRead_trace (s : State) : s.afterCtlRead.trace = s.trace := rfl
@[simp] theorem State.afterCtlRead_result (s : State) : s.afterCtlRead.result = s.result := rfl
@[simp] theorem State.afterCtlRead_now (s : State) : s.afterCtlRead.now = s.now := rfl
@[simp] theorem State.afterCtlRead_inputs (s : State) : s.afterCtlRead.inputs = s.inputs := rfl
@[simp] theorem State.afterCtlRead_answers (s : State) :
    s.afterCtlRead.answers = { s.answers with ctlRead := s.answers.ctlRead.tail } := rfl
@[simp] theorem State.afterCtlRead_drawn (s : State) : s.afterCtlRead.drawn = drawnAfter s.answers.ctlRead s.drawn := rfl
@[simp] theorem State.afterCtlRead_byteAt (s : State) (a : Addr) : s.afterCtlRead.byteAt a = s.byteAt a := rfl
@[simp] theorem State.afterCtlRead_ramByte (s : State) (k : Nat) : s.afterCtlRead.ramByte k = s.ramByte k := rfl
@[simp] theorem State.afterCtlRead_freeByte (s : State) (k : Nat) : s.afterCtlRead.freeByte k = s.freeByte k := rfl
@[simp] theorem State.afterCtlRead_bankIndex (s : State) (a : Addr) : s.afterCtlRead.bankIndex a = s.bankIndex a := rfl
@[simp] theorem State.afterCtlRead_romIndex (s : State) (a : Addr) : s.afterCtlRead.romIndex a = s.romIndex a := rfl

/-! ## `afterPriCtrlRead` -/

@[simp] theorem State.afterPriCtrlRead_cfg (s : State) : s.afterPriCtrlRead.cfg = s.cfg := rfl
@[simp] theorem State.afterPriCtrlRead_ram (s : State) : s.afterPriCtrlRead.ram = s.ram := rfl
@[simp] theorem State.afterPriCtrlRead_free (s : State) : s.afterPriCtrlRead.free = s.free := rfl
@[simp] theorem State.afterPriCtrlRead_freeEpoch (s : State) : s.afterPriCtrlRead.freeEpoch = s.freeEpoch := rfl
@[simp] theorem State.afterPriCtrlRead_curBank (s : State) : s.afterPriCtrlRead.curBank = s.curBank := rfl
@[simp] theorem State.afterPriCtrlRead_irqLine (s : State) : s.afterPriCtrlRead.irqLine = s.irqLine := rfl
@[simp] theorem State.afterPriCtrlRead_firqLine (s : State) : s.afterPriCtrlRead.firqLine = s.firqLine := rfl
@[simp] theorem State.afterPriCtrlRead_frameCount (s : State) : s.afterPriCtrlRead.frameCount = s.frameCount := rfl
@[simp] theorem State.afterPriCtrlRead_irqCount (s : State) : s.afterPriCtrlRead.irqCount = s.irqCount := rfl
@[simp] theorem State.afterPriCtrlRead_digitOut (s : State) : s.afterPriCtrlRead.digitOut = s.digitOut := rfl
@[simp] theorem State.afterPriCtrlRead_nextFrame (s : State) : s.afterPriCtrlRead.nextFrame = s.nextFrame := rfl
@[simp] theorem State.afterPriCtrlRead_nextIrq (s : State) : s.afterPriCtrlRead.nextIrq = s.nextIrq := rfl
@[simp] theorem State.afterPriCtrlRead_trace (s : State) : s.afterPriCtrlRead.trace = s.trace := rfl
@[simp] theorem State.afterPriCtrlRead_result (s : State) : s.afterPriCtrlRead.result = s.result := rfl
@[simp] theorem State.afterPriCtrlRead_now (s : State) : s.afterPriCtrlRead.now = s.now := rfl
@[simp] theorem State.afterPriCtrlRead_inputs (s : State) : s.afterPriCtrlRead.inputs = s.inputs := rfl
@[simp] theorem State.afterPriCtrlRead_answers (s : State) :
    s.afterPriCtrlRead.answers = { s.answers with priCtrlRead := s.answers.priCtrlRead.tail } := rfl
@[simp] theorem State.afterPriCtrlRead_drawn (s : State) :
    s.afterPriCtrlRead.drawn = drawnAfter s.answers.priCtrlRead s.drawn := rfl
@[simp] theorem State.afterPriCtrlRead_byteAt (s : State) (a : Addr) : s.afterPriCtrlRead.byteAt a = s.byteAt a := rfl
@[simp] theorem State.afterPriCtrlRead_ramByte (s : State) (k : Nat) : s.afterPriCtrlRead.ramByte k = s.ramByte k := rfl
@[simp] theorem State.afterPriCtrlRead_freeByte (s : State) (k : Nat) : s.afterPriCtrlRead.freeByte k = s.freeByte k := rfl
@[simp] theorem State.afterPriCtrlRead_bankIndex (s : State) (a : Addr) :
    s.afterPriCtrlRead.bankIndex a = s.bankIndex a := rfl
@[simp] theorem State.afterPriCtrlRead_romIndex (s : State) (a : Addr) : s.afterPriCtrlRead.romIndex a = s.romIndex a := rfl

/-! ## `afterPriDataRead` -/

@[simp] theorem State.afterPriDataRead_cfg (s : State) : s.afterPriDataRead.cfg = s.cfg := rfl
@[simp] theorem State.afterPriDataRead_ram (s : State) : s.afterPriDataRead.ram = s.ram := rfl
@[simp] theorem State.afterPriDataRead_free (s : State) : s.afterPriDataRead.free = s.free := rfl
@[simp] theorem State.afterPriDataRead_freeEpoch (s : State) : s.afterPriDataRead.freeEpoch = s.freeEpoch := rfl
@[simp] theorem State.afterPriDataRead_curBank (s : State) : s.afterPriDataRead.curBank = s.curBank := rfl
@[simp] theorem State.afterPriDataRead_irqLine (s : State) : s.afterPriDataRead.irqLine = s.irqLine := rfl
@[simp] theorem State.afterPriDataRead_firqLine (s : State) : s.afterPriDataRead.firqLine = s.firqLine := rfl
@[simp] theorem State.afterPriDataRead_frameCount (s : State) : s.afterPriDataRead.frameCount = s.frameCount := rfl
@[simp] theorem State.afterPriDataRead_irqCount (s : State) : s.afterPriDataRead.irqCount = s.irqCount := rfl
@[simp] theorem State.afterPriDataRead_digitOut (s : State) : s.afterPriDataRead.digitOut = s.digitOut := rfl
@[simp] theorem State.afterPriDataRead_nextFrame (s : State) : s.afterPriDataRead.nextFrame = s.nextFrame := rfl
@[simp] theorem State.afterPriDataRead_nextIrq (s : State) : s.afterPriDataRead.nextIrq = s.nextIrq := rfl
@[simp] theorem State.afterPriDataRead_trace (s : State) : s.afterPriDataRead.trace = s.trace := rfl
@[simp] theorem State.afterPriDataRead_result (s : State) : s.afterPriDataRead.result = s.result := rfl
@[simp] theorem State.afterPriDataRead_now (s : State) : s.afterPriDataRead.now = s.now := rfl
@[simp] theorem State.afterPriDataRead_inputs (s : State) : s.afterPriDataRead.inputs = s.inputs := rfl
@[simp] theorem State.afterPriDataRead_answers (s : State) :
    s.afterPriDataRead.answers = { s.answers with priDataRead := s.answers.priDataRead.tail } := rfl
@[simp] theorem State.afterPriDataRead_drawn (s : State) :
    s.afterPriDataRead.drawn = drawnAfter s.answers.priDataRead s.drawn := rfl
@[simp] theorem State.afterPriDataRead_byteAt (s : State) (a : Addr) : s.afterPriDataRead.byteAt a = s.byteAt a := rfl
@[simp] theorem State.afterPriDataRead_ramByte (s : State) (k : Nat) : s.afterPriDataRead.ramByte k = s.ramByte k := rfl
@[simp] theorem State.afterPriDataRead_freeByte (s : State) (k : Nat) : s.afterPriDataRead.freeByte k = s.freeByte k := rfl
@[simp] theorem State.afterPriDataRead_bankIndex (s : State) (a : Addr) :
    s.afterPriDataRead.bankIndex a = s.bankIndex a := rfl
@[simp] theorem State.afterPriDataRead_romIndex (s : State) (a : Addr) : s.afterPriDataRead.romIndex a = s.romIndex a := rfl

/-! ## `afterTimerFirst` -/

@[simp] theorem State.afterTimerFirst_cfg (s : State) : s.afterTimerFirst.cfg = s.cfg := rfl
@[simp] theorem State.afterTimerFirst_ram (s : State) : s.afterTimerFirst.ram = s.ram := rfl
@[simp] theorem State.afterTimerFirst_free (s : State) : s.afterTimerFirst.free = s.free := rfl
@[simp] theorem State.afterTimerFirst_freeEpoch (s : State) : s.afterTimerFirst.freeEpoch = s.freeEpoch := rfl
@[simp] theorem State.afterTimerFirst_curBank (s : State) : s.afterTimerFirst.curBank = s.curBank := rfl
@[simp] theorem State.afterTimerFirst_irqLine (s : State) : s.afterTimerFirst.irqLine = s.irqLine := rfl
@[simp] theorem State.afterTimerFirst_firqLine (s : State) : s.afterTimerFirst.firqLine = s.firqLine := rfl
@[simp] theorem State.afterTimerFirst_frameCount (s : State) : s.afterTimerFirst.frameCount = s.frameCount := rfl
@[simp] theorem State.afterTimerFirst_irqCount (s : State) : s.afterTimerFirst.irqCount = s.irqCount := rfl
@[simp] theorem State.afterTimerFirst_digitOut (s : State) : s.afterTimerFirst.digitOut = s.digitOut := rfl
@[simp] theorem State.afterTimerFirst_nextFrame (s : State) : s.afterTimerFirst.nextFrame = s.nextFrame := rfl
@[simp] theorem State.afterTimerFirst_nextIrq (s : State) : s.afterTimerFirst.nextIrq = s.nextIrq := rfl
@[simp] theorem State.afterTimerFirst_trace (s : State) : s.afterTimerFirst.trace = s.trace := rfl
@[simp] theorem State.afterTimerFirst_result (s : State) : s.afterTimerFirst.result = s.result := rfl
@[simp] theorem State.afterTimerFirst_now (s : State) : s.afterTimerFirst.now = s.now := rfl
@[simp] theorem State.afterTimerFirst_inputs (s : State) : s.afterTimerFirst.inputs = s.inputs := rfl
@[simp] theorem State.afterTimerFirst_answers (s : State) :
    s.afterTimerFirst.answers = { s.answers with timerFirst := s.answers.timerFirst.tail } := rfl
@[simp] theorem State.afterTimerFirst_drawn (s : State) :
    s.afterTimerFirst.drawn = drawnAfter s.answers.timerFirst s.drawn := rfl
@[simp] theorem State.afterTimerFirst_byteAt (s : State) (a : Addr) : s.afterTimerFirst.byteAt a = s.byteAt a := rfl
@[simp] theorem State.afterTimerFirst_ramByte (s : State) (k : Nat) : s.afterTimerFirst.ramByte k = s.ramByte k := rfl
@[simp] theorem State.afterTimerFirst_freeByte (s : State) (k : Nat) : s.afterTimerFirst.freeByte k = s.freeByte k := rfl
@[simp] theorem State.afterTimerFirst_bankIndex (s : State) (a : Addr) : s.afterTimerFirst.bankIndex a = s.bankIndex a := rfl
@[simp] theorem State.afterTimerFirst_romIndex (s : State) (a : Addr) : s.afterTimerFirst.romIndex a = s.romIndex a := rfl

/-! ## `afterInputOrder` -/

@[simp] theorem State.afterInputOrder_cfg (s : State) : s.afterInputOrder.cfg = s.cfg := rfl
@[simp] theorem State.afterInputOrder_ram (s : State) : s.afterInputOrder.ram = s.ram := rfl
@[simp] theorem State.afterInputOrder_free (s : State) : s.afterInputOrder.free = s.free := rfl
@[simp] theorem State.afterInputOrder_freeEpoch (s : State) : s.afterInputOrder.freeEpoch = s.freeEpoch := rfl
@[simp] theorem State.afterInputOrder_curBank (s : State) : s.afterInputOrder.curBank = s.curBank := rfl
@[simp] theorem State.afterInputOrder_irqLine (s : State) : s.afterInputOrder.irqLine = s.irqLine := rfl
@[simp] theorem State.afterInputOrder_firqLine (s : State) : s.afterInputOrder.firqLine = s.firqLine := rfl
@[simp] theorem State.afterInputOrder_frameCount (s : State) : s.afterInputOrder.frameCount = s.frameCount := rfl
@[simp] theorem State.afterInputOrder_irqCount (s : State) : s.afterInputOrder.irqCount = s.irqCount := rfl
@[simp] theorem State.afterInputOrder_digitOut (s : State) : s.afterInputOrder.digitOut = s.digitOut := rfl
@[simp] theorem State.afterInputOrder_nextFrame (s : State) : s.afterInputOrder.nextFrame = s.nextFrame := rfl
@[simp] theorem State.afterInputOrder_nextIrq (s : State) : s.afterInputOrder.nextIrq = s.nextIrq := rfl
@[simp] theorem State.afterInputOrder_trace (s : State) : s.afterInputOrder.trace = s.trace := rfl
@[simp] theorem State.afterInputOrder_result (s : State) : s.afterInputOrder.result = s.result := rfl
@[simp] theorem State.afterInputOrder_now (s : State) : s.afterInputOrder.now = s.now := rfl
@[simp] theorem State.afterInputOrder_inputs (s : State) : s.afterInputOrder.inputs = s.inputs := rfl
@[simp] theorem State.afterInputOrder_answers (s : State) :
    s.afterInputOrder.answers = { s.answers with inputOrder := s.answers.inputOrder.tail } := rfl
@[simp] theorem State.afterInputOrder_drawn (s : State) :
    s.afterInputOrder.drawn = drawnAfter s.answers.inputOrder s.drawn := rfl
@[simp] theorem State.afterInputOrder_byteAt (s : State) (a : Addr) : s.afterInputOrder.byteAt a = s.byteAt a := rfl
@[simp] theorem State.afterInputOrder_ramByte (s : State) (k : Nat) : s.afterInputOrder.ramByte k = s.ramByte k := rfl
@[simp] theorem State.afterInputOrder_freeByte (s : State) (k : Nat) : s.afterInputOrder.freeByte k = s.freeByte k := rfl
@[simp] theorem State.afterInputOrder_bankIndex (s : State) (a : Addr) : s.afterInputOrder.bankIndex a = s.bankIndex a := rfl
@[simp] theorem State.afterInputOrder_romIndex (s : State) (a : Addr) : s.afterInputOrder.romIndex a = s.romIndex a := rfl

end Sys2Proof.Machine
end

