-- ==== Sys2Proof/Laws/Exec.lean ====
section
/-! SUPPORT. One lemma per shared operation that says everything it can do: how a transaction ends, how a region sub-row runs, what a
write of the protected RAM does, what a loop of segment queries does, and what the next event on the timeline can be. -/

namespace Sys2Proof.Machine

/-! ## Ends of a transaction -/

@[simp] theorem State.done_eq (s : State) : s.done = .next (s.setResult none) := rfl

@[simp] theorem State.returning_eq (s : State) (b : Byte) : s.returning b = .next (s.setResult (some b)) := rfl

theorem State.returningImage_of_some {s : State} {i : Nat} {b : Byte} (h : s.cfg.imageByte i = some b) :
    s.returningImage i = .next (s.setResult (some b)) := by simp [State.returningImage, h]

/-- A read of the image answers a next state exactly when the byte exists, and only the returned byte changes. -/
theorem State.returningImage_next_iff {s t : State} {i : Nat} :
    s.returningImage i = .next t ↔ ∃ b, s.cfg.imageByte i = some b ∧ t = s.setResult (some b) := by
  cases h : s.cfg.imageByte i <;> simp [State.returningImage, h, eq_comm]

/-! ## Region sub-rows -/

theorem inRegion_of_eq {r : Region} {a : Addr} {s : State} (k : Result) (h : region s.cfg a = r) :
    inRegion r a s k = k := if_pos h

theorem inRegion_next_iff {r : Region} {a : Addr} {s t : State} {k : Result} :
    inRegion r a s k = .next t ↔ region s.cfg a = r ∧ k = .next t := by
  by_cases h : region s.cfg a = r <;> simp [inRegion, h]

/-! ## Protected RAM -/

theorem isProtected_eq_true {active : Bool} {mask o : Addr} :
    isProtected active mask o = true ↔ active = true ∧ o &&& mask = mask := by simp [isProtected]

/-- The state after the two protection inputs have been sampled (41_protected_ram.md rule R151). -/
abbrev State.sampled (s : State) : State := s.afterProtActive.afterProtMask

/-- A write of the protected RAM always ends; it stores the byte, or emits the diagnostic. -/
theorem writeRam_eq (a : Addr) (d : Byte) (s : State) :
    writeRam a d s =
      .next (((if isProtected s.answerProtActive s.afterProtActive.answerProtMask a then
        s.sampled.emit (.diagProtViolation a s.afterProtActive.answerProtMask)
        else s.sampled.storeRam a.toNat d)).setResult none) := by
  simp only [writeRam, State.done_eq]
  split <;> rfl

theorem writeRam_of_protected {a : Addr} {s : State} (d : Byte)
    (h : isProtected s.answerProtActive s.afterProtActive.answerProtMask a = true) :
    writeRam a d s =
      .next ((s.sampled.emit (.diagProtViolation a s.afterProtActive.answerProtMask)).setResult none) := by
  rw [writeRam_eq, if_pos h]

theorem writeRam_of_unprotected {a : Addr} {s : State} (d : Byte)
    (h : isProtected s.answerProtActive s.afterProtActive.answerProtMask a = false) :
    writeRam a d s = .next ((s.sampled.storeRam a.toNat d).setResult none) := by
  rw [writeRam_eq, if_neg (by simp [h])]

/-! ## Answers -/

theorem drawnAfter_eq {α : Type} (tape : List α) (n : Nat) : drawnAfter tape n = n + (1 - tape.length) := by
  cases tape <;> simp [drawnAfter]

/-! ## The frame tick's queries -/

/-- The answer that the `k`-th segment query from here on gets. -/
def State.segmentAnswer (s : State) (k : Nat) : BitVec 16 :=
  (s.answers.segment[k]?).getD (Config.freeValue 16 (s.drawn + (k - s.answers.segment.length)))

/-- The state after `js` have been queried. -/
def State.afterQueries (s : State) (js : List Nat) : State :=
  { s with
    trace := s.trace ++ js.map .ctlQuerySegment
    answers := { s.answers with segment := s.answers.segment.drop js.length }
    drawn := s.drawn + (js.length - s.answers.segment.length) }

theorem State.segmentAnswer_zero (s : State) : s.segmentAnswer 0 = s.answerSegment := by
  cases h : s.answers.segment <;> simp [State.segmentAnswer, State.answerSegment, h]

theorem State.segmentAnswer_succ (s : State) (e : Event) (k : Nat) :
    (s.emit e).afterSegment.segmentAnswer k = s.segmentAnswer (k + 1) := by
  cases h : s.answers.segment with
  | nil => simp [State.segmentAnswer, h, drawnAfter, Nat.add_assoc, Nat.add_comm 1]
  | cons v vs => simp [State.segmentAnswer, h, drawnAfter]

/-- The loop of queries: the digits are the permuted answers in order, and the state has the queries in its trace. -/
theorem latchDigits_eq (js : List Nat) (s : State) :
    latchDigits js s = ((List.range js.length).map (fun k => perm (s.segmentAnswer k)), s.afterQueries js) := by
  induction js generalizing s with
  | nil => simp [latchDigits, State.afterQueries]
  | cons j js ih =>
    simp only [latchDigits, ih, List.length_cons, List.range_succ_eq_map, List.map_cons, List.map_map]
    refine Prod.ext ?_ ?_
    · simp only [State.segmentAnswer_zero]
      congr 1
      refine List.map_congr_left fun k _ => ?_
      simp [State.segmentAnswer_succ]
    · cases h : s.answers.segment <;>
        simp [State.afterQueries, State.afterSegment, State.emit, drawnAfter, h, Nat.add_assoc, Nat.add_comm 1]

/-- FRAME_TICK always ends. -/
theorem execFrameTick_eq (s : State) :
    execFrameTick s =
      .next (((((s.afterQueries s.cfg.digitQueries).setDigitOut
        ((List.range s.cfg.digitQueries.length).map fun k => perm (s.segmentAnswer k))).emit
          .ctlClearSegments).countFrame).setResult none) := by
  simp [execFrameTick, latchDigits_eq]

/-! ## The timeline -/

/-- `before` compares the scheduled times, an input with none coming first. -/
theorem Input.before_iff {i j : Input} : i.before j = true ↔ ∃ u, j.due = some u ∧ ∀ t, i.due = some t → t < u := by
  cases hi : i.due <;> cases hj : j.due <;> simp [Input.before, hi, hj]

/-- Nothing comes before an input with no time. -/
theorem Input.not_before_untimed (j : Input) {i : Input} (h : i.due = none) : j.before i = false := by
  cases hj : j.due <;> simp [Input.before, h, hj]

/-- What does not come before an input that does not come before `k` does not come before `k`. -/
theorem Input.before_false_trans {i j k : Input} (hij : i.before j = false) (hjk : j.before k = false) :
    i.before k = false := by
  cases hi : i.due <;> cases hj : j.due <;> cases hk : k.due <;> simp_all [Input.before]; omega

theorem Input.before_asymm {i j : Input} (h : i.before j = true) : j.before i = false := by
  cases hi : i.due <;> cases hj : j.due <;> simp_all [Input.before]; omega

/-- No input is next only where there is none. -/
theorem earliestInput_eq_none {l : List Input} (h : earliestInput l = none) : l = [] := by
  cases l with
  | nil => rfl
  | cons i rest =>
    simp only [earliestInput] at h
    split at h
    · cases h
    · split at h <;> cases h

/-- The input that comes next is one of them. -/
theorem earliestInput_mem {l : List Input} {r : Input × List Input} (h : earliestInput l = some r) : r.1 ∈ l := by
  induction l generalizing r with
  | nil => cases h
  | cons i rest ih =>
    simp only [earliestInput] at h
    split at h
    · simp [← Option.some.inj h]
    · rename_i hr
      have hm := ih hr
      split at h <;> simp [← Option.some.inj h, hm]

/-- Inputs with one that comes before all issued earlier and after none issued later: it is the next. -/
theorem earliestInput_append {pre post : List Input} {i : Input} (hpre : ∀ j ∈ pre, i.before j = true)
    (hpost : ∀ j ∈ post, j.before i = false) : earliestInput (pre ++ i :: post) = some (i, pre ++ post) := by
  induction pre with
  | nil =>
    cases h : earliestInput post with
    | none => simp [earliestInput, earliestInput_eq_none h]
    | some r => simp [earliestInput, h, hpost _ (earliestInput_mem h)]
  | cons k pre ih =>
    have hi := ih fun j hj => hpre j (List.mem_cons_of_mem _ hj)
    simp [earliestInput, hi, hpre k List.mem_cons_self]

/-- Every list of inputs that is not empty has one that comes before all issued earlier and after none issued later. -/
theorem exists_earliest (l : List Input) :
    l = [] ∨ ∃ pre i post, l = pre ++ i :: post ∧ (∀ j ∈ pre, i.before j = true) ∧ ∀ j ∈ post, j.before i = false := by
  induction l with
  | nil => exact .inl rfl
  | cons k rest ih =>
    refine .inr ?_
    obtain rfl | ⟨pre, i, post, rfl, hpre, hpost⟩ := ih
    · exact ⟨[], k, [], rfl, by simp, by simp⟩
    · cases hk : i.before k with
      | true =>
        refine ⟨k :: pre, i, post, rfl, fun j hj => ?_, hpost⟩
        obtain rfl | hj := List.mem_cons.mp hj
        exacts [hk, hpre j hj]
      | false =>
        refine ⟨[], k, pre ++ i :: post, rfl, by simp, fun j hj => ?_⟩
        refine Input.before_false_trans (j := i) ?_ hk
        rcases List.mem_append.mp hj with hj | hj
        · exact Input.before_asymm (hpre j hj)
        · obtain rfl | hj := List.mem_cons.mp hj
          · cases hd : j.due <;> simp [Input.before, hd]
          · exact hpost j hj

theorem State.nextEvent_of_no_input {s : State} (h : s.inputs = []) : s.nextEvent = s.timerEvent := by
  simp [State.nextEvent, h, earliestInput]

/-- The `k`-th input scheduled at `t` is the one with `k` such before it. -/
theorem nthDue_append {t k : Nat} {pre post : List Input} {i : Input} (hd : i.due = some t) (hk : dueCount t pre = k) :
    nthDue t k (pre ++ i :: post) = some (i, pre ++ post) := by
  induction pre generalizing k with
  | nil => subst hk; simp [nthDue, dueCount, hd]
  | cons j pre ih =>
    by_cases hj : j.due = some t
    · obtain ⟨k, rfl⟩ : ∃ k', k = k' + 1 := ⟨dueCount t pre, by simp [← hk, dueCount, hj]⟩
      simp [nthDue, hj, ih (k := k) (by simpa [dueCount, hj] using hk)]
    · simp [nthDue, hj, ih (k := k) (by simpa [dueCount, hj] using hk)]

/-- There is a `k`-th input scheduled at `t` for every `k` below their number. -/
theorem exists_nthDue {t k : Nat} {l : List Input} (h : k < dueCount t l) :
    ∃ pre i post, l = pre ++ i :: post ∧ i.due = some t ∧ dueCount t pre = k := by
  induction l generalizing k with
  | nil => simp [dueCount] at h
  | cons j l ih =>
    by_cases hj : j.due = some t
    · cases k with
      | zero => exact ⟨[], j, l, rfl, hj, rfl⟩
      | succ k =>
        obtain ⟨pre, i, post, rfl, hi, hk⟩ := ih (k := k) (by simpa [dueCount, hj] using h)
        exact ⟨j :: pre, i, post, rfl, hi, by simpa [dueCount, hj] using hk⟩
    · obtain ⟨pre, i, post, rfl, hi, hk⟩ := ih (k := k) (by simpa [dueCount, hj] using h)
      exact ⟨j :: pre, i, post, rfl, hi, by simpa [dueCount, hj] using hk⟩

/-- The choice is of one of the inputs scheduled at `t`, if there are any. -/
theorem State.inputChoice_lt {s : State} {t : Nat} (h : 0 < dueCount t s.inputs) : s.inputChoice t < dueCount t s.inputs := by
  unfold State.inputChoice
  split
  · exact h
  · exact Nat.mod_lt _ h

/-- Choosing asks at most one answer. -/
theorem State.afterInputChoice_cases (s : State) (t : Nat) :
    s.afterInputChoice t = s ∨ s.afterInputChoice t = s.afterInputOrder := by
  unfold State.afterInputChoice
  split
  · exact .inl rfl
  · exact .inr rfl

/-- The event of an input scheduled at `t`, given that the input is the chosen one. -/
theorem State.inputEvent_of_choice {s : State} {t : Nat} {pre post : List Input} {i : Input} (first : Input × List Input)
    (h : s.inputs = pre ++ i :: post) (hd : i.due = some t) (hk : dueCount t pre = s.inputChoice t) :
    s.inputEvent t first = (i.word, ((s.afterInputChoice t).setInputs (pre ++ post)).advanceTo t) := by
  have hn : nthDue t (s.inputChoice t) s.inputs = some (i, pre ++ post) := by rw [h]; exact nthDue_append hd hk
  simp [State.inputEvent, hn]

/-- The event of an input scheduled at `t` is that of some such input. -/
theorem State.inputEvent_cases {s : State} {t : Nat} (first : Input × List Input) (h : ∃ j ∈ s.inputs, j.due = some t) :
    ∃ pre i post, s.inputs = pre ++ i :: post ∧ i.due = some t ∧
      s.inputEvent t first = (i.word, ((s.afterInputChoice t).setInputs (pre ++ post)).advanceTo t) := by
  have hpos : 0 < dueCount t s.inputs := by
    obtain ⟨j, hj, hjd⟩ := h
    exact List.countP_pos_iff.mpr ⟨j, hj, by simp [hjd]⟩
  obtain ⟨pre, i, post, hi, hd, hk⟩ := exists_nthDue (State.inputChoice_lt hpos)
  exact ⟨pre, i, post, hi, hd, State.inputEvent_of_choice first hi hd hk⟩

/-- The next event, given which input is the earliest. -/
theorem State.nextEvent_of_earliest {s : State} {pre post : List Input} {i : Input} (h : s.inputs = pre ++ i :: post)
    (hpre : ∀ j ∈ pre, i.before j = true) (hpost : ∀ j ∈ post, j.before i = false) :
    s.nextEvent =
      match i.due with
      | none => (i.word, s.setInputs (pre ++ post))
      | some t =>
        if s.timerTime < t then s.timerEvent
        else if t < s.timerTime then s.inputEvent t (i, pre ++ post)
        else if s.answerTimerFirst then s.afterTimerFirst.timerEvent
        else s.afterTimerFirst.inputEvent t (i, pre ++ post) := by
  cases hd : i.due <;> simp only [State.nextEvent, h, earliestInput_append hpre hpost, hd]

/-- An input before which no other comes is due no later than any other. -/
theorem Input.due_le_of_not_before {i j : Input} {t u : Nat} (h : j.before i = false) (hi : i.due = some t)
    (hj : j.due = some u) : t ≤ u := by simpa [Input.before, hi, hj] using h

/-- Everything the next event can be: the firing of a timer that no input precedes, or an input that neither a timer nor another
input precedes, after at most one answer about each order. -/
theorem State.nextEvent_cases (s : State) :
    ((s.nextEvent = s.timerEvent ∨ s.nextEvent = s.afterTimerFirst.timerEvent) ∧
      ∀ j ∈ s.inputs, ∀ t ∈ j.due, s.timerTime ≤ t) ∨
    ∃ pre i post, s.inputs = pre ++ i :: post ∧
      ((i.due = none ∧ s.nextEvent = (i.word, s.setInputs (pre ++ post))) ∨
        ∃ t, i.due = some t ∧ t ≤ s.timerTime ∧ (∀ j ∈ pre ++ post, ∀ u ∈ j.due, t ≤ u) ∧
          (s.nextEvent = (i.word, ((s.afterInputChoice t).setInputs (pre ++ post)).advanceTo t) ∨
            s.nextEvent = (i.word, ((s.afterTimerFirst.afterInputChoice t).setInputs (pre ++ post)).advanceTo t))) := by
  obtain h | ⟨pre, i, post, h, hpre, hpost⟩ := exists_earliest s.inputs
  · exact .inl ⟨.inl (State.nextEvent_of_no_input h), by simp [h]⟩
  have he := State.nextEvent_of_earliest h hpre hpost
  cases hd : i.due with
  | none =>
    rw [hd] at he
    exact .inr ⟨pre, i, post, h, .inl ⟨hd, he⟩⟩
  | some t =>
    rw [hd] at he
    have hmem : i ∈ s.inputs := by simp [h]
    have hle : ∀ j ∈ s.inputs, ∀ u ∈ j.due, t ≤ u := by
      intro j hj u hu
      simp only [h, List.mem_append, List.mem_cons] at hj
      rcases hj with hj | rfl | hj
      · exact Input.due_le_of_not_before (Input.before_asymm (hpre j hj)) hd hu
      · rw [Option.mem_def, hd, Option.some.injEq] at hu
        exact hu.le
      · exact Input.due_le_of_not_before (hpost j hj) hd hu
    have hrest : ∀ {pre' post' : List Input} {i' : Input}, s.inputs = pre' ++ i' :: post' →
        ∀ j ∈ pre' ++ post', ∀ u ∈ j.due, t ≤ u := by
      intro pre' post' i' h' j hj
      refine hle j ?_
      rw [h']
      simp only [List.mem_append, List.mem_cons] at hj ⊢
      tauto
    simp only at he
    split_ifs at he with h1 h2 h3
    · exact .inl ⟨.inl he, fun j hj u hu => h1.le.trans (hle j hj u hu)⟩
    · obtain ⟨pre', i', post', h', hd', he'⟩ := State.inputEvent_cases (s := s) (i, pre ++ post) ⟨i, hmem, hd⟩
      exact .inr ⟨pre', i', post', h', .inr ⟨t, hd', h2.le, hrest h', .inl (he.trans he')⟩⟩
    · exact .inl ⟨.inr he, fun j hj u hu => (not_lt.mp h2).trans (hle j hj u hu)⟩
    · obtain ⟨pre', i', post', h', hd', he'⟩ :=
        State.inputEvent_cases (s := s.afterTimerFirst) (i, pre ++ post) ⟨i, hmem, hd⟩
      exact .inr ⟨pre', i', post', h', .inr ⟨t, hd', not_lt.mp h1, hrest h', .inr (he.trans he')⟩⟩

/-- A word issued by `withFetchWord` is the next event, in the state it was issued in. -/
theorem State.nextEvent_withFetchWord (s : State) (nbits w : Nat) :
    (s.withFetchWord nbits w).nextEvent = (BitVec.ofNat 32 (w % 2 ^ nbits), s) :=
  State.nextEvent_of_earliest (i := ⟨none, BitVec.ofNat 32 (w % 2 ^ nbits)⟩) (pre := []) (post := s.inputs) rfl (by simp)
    fun j _ => Input.not_before_untimed j rfl

/-- `step` under a well-formed configuration, by the decoder's verdict. -/
theorem step_of_decoded {s : State} {i : Instr} (hc : s.cfg.wf = true) (hd : decode s.nextEvent.1 = .decoded i) :
    step s = exec i s.nextEvent.2 := by simp [step, hc, hd]

end Sys2Proof.Machine
end

