-- ==== Sys2Proof/Laws/PerInstr.lean ====
section
/-! SUPPORT. Per-instruction laws. `TableRow`: the word of every instruction has the fixed bits that its row of spec/opcode_table.json
gives (the columns match and mask). -/

namespace Sys2Proof.Laws.TableRow

/-- The column mask of the row. -/
def mask : Instr → Word
  | .busRead _ | .busReadRam _ | .busReadFree _ | .busReadIo _ => 0xFF0000FF
  | .busReadBank _ | .busReadRom _ => 0xFF0000FF
  | .busWrite _ _ | .busWriteRam _ _ | .busWriteFree _ _ | .busWriteIo _ _ => 0xFF000000
  | .busWriteBank _ _ | .busWriteRom _ _ => 0xFF000000
  | .bankSelect _ | .sndCtrlWrite _ | .sndDataWrite _ | .sndStrobeWrite _ => 0xFFFFFF00
  | .irqClear | .firqClear | .frameTick | .irqTick => 0xFFFFFFFF
  | .sndCtrlRead | .sndDataRead | .sndReply | .reset => 0xFFFFFFFF
  | .reservedE _ | .reservedF _ => 0xF0000000

/-- The column match of the row. -/
def fixed : Instr → Word
  | .busRead _ | .busReadRam _ | .busReadFree _ | .busReadIo _ => 0x00000000
  | .busReadBank _ | .busReadRom _ => 0x00000000
  | .busWrite _ _ | .busWriteRam _ _ | .busWriteFree _ _ | .busWriteIo _ _ => 0x10000000
  | .busWriteBank _ _ | .busWriteRom _ _ => 0x10000000
  | .bankSelect _ => 0x20000000
  | .irqClear => 0x30000000
  | .firqClear => 0x40000000
  | .frameTick => 0x50000000
  | .irqTick => 0x60000000
  | .sndCtrlRead => 0x70000000
  | .sndCtrlWrite _ => 0x80000000
  | .sndDataRead => 0x90000000
  | .sndDataWrite _ => 0xA0000000
  | .sndStrobeWrite _ => 0xB0000000
  | .sndReply => 0xC0000000
  | .reset => 0xD0000000
  | .reservedE _ => 0xE0000000
  | .reservedF _ => 0xF0000000

/-- The word of the instruction has its row's fixed bits. -/
def Statement (i : Instr) : Prop := encode i &&& mask i = fixed i

theorem op_and (op : BitVec 4) : op &&& 0xF#4 = op := by
  revert op
  decide

/-- Masking a word field by field. -/
theorem txnWord_and (op : BitVec 4) (a am : Addr) (d dm : Byte) :
    txnWord op a d &&& (0xF#4 ++ 0xF#4 ++ am ++ dm) = txnWord op (a &&& am) (d &&& dm) := by
  have h : (op ++ 0#4 ++ a ++ d) &&& (0xF#4 ++ 0xF#4 ++ am ++ dm) =
      (op &&& 0xF#4) ++ (0#4 &&& 0xF#4) ++ (a &&& am) ++ (d &&& dm) := by
    rw [BitVec.and_append, BitVec.and_append, BitVec.and_append]
  rw [op_and] at h
  exact h

theorem bus_read_row (a : Addr) : txnWord 0x0 a 0 &&& 0xFF0000FF = 0x00000000 := by
  have h := txnWord_and 0x0 a 0#16 0#8 0xFF#8
  rw [BitVec.and_zero] at h
  exact h

theorem bus_write_row (a : Addr) (d : Byte) : txnWord 0x1 a d &&& 0xFF000000 = 0x10000000 := by
  have h := txnWord_and 0x1 a 0#16 d 0#8
  rw [BitVec.and_zero, BitVec.and_zero] at h
  exact h

theorem data_row (op : BitVec 4) (d : Byte) : txnWord op 0 d &&& 0xFFFFFF00 = txnWord op 0 0 := by
  have h := txnWord_and op 0#16 0xFFFF#16 d 0#8
  rw [BitVec.and_zero, BitVec.zero_and] at h
  exact h

theorem reserved_row (op : BitVec 4) (rest : BitVec 28) : (op ++ rest) &&& 0xF0000000 = op ++ 0#28 := by
  have h : (op ++ rest) &&& (0xF#4 ++ 0#28) = (op &&& 0xF#4) ++ (rest &&& 0#28) := BitVec.and_append
  rw [op_and, BitVec.and_zero] at h
  exact h

theorem busRead (addr : Addr) : Statement (.busRead addr) := bus_read_row addr
theorem busReadRam (addr : Addr) : Statement (.busReadRam addr) := bus_read_row addr
theorem busReadFree (addr : Addr) : Statement (.busReadFree addr) := bus_read_row addr
theorem busReadIo (addr : Addr) : Statement (.busReadIo addr) := bus_read_row addr
theorem busReadBank (addr : Addr) : Statement (.busReadBank addr) := bus_read_row addr
theorem busReadRom (addr : Addr) : Statement (.busReadRom addr) := bus_read_row addr
theorem busWrite (addr : Addr) (data : Byte) : Statement (.busWrite addr data) := bus_write_row addr data
theorem busWriteRam (addr : Addr) (data : Byte) : Statement (.busWriteRam addr data) := bus_write_row addr data
theorem busWriteFree (addr : Addr) (data : Byte) : Statement (.busWriteFree addr data) := bus_write_row addr data
theorem busWriteIo (addr : Addr) (data : Byte) : Statement (.busWriteIo addr data) := bus_write_row addr data
theorem busWriteBank (addr : Addr) (data : Byte) : Statement (.busWriteBank addr data) := bus_write_row addr data
theorem busWriteRom (addr : Addr) (data : Byte) : Statement (.busWriteRom addr data) := bus_write_row addr data
theorem bankSelect (data : Byte) : Statement (.bankSelect data) := data_row _ data
theorem irqClear : Statement .irqClear := show encode .irqClear &&& mask .irqClear = fixed .irqClear by decide
theorem firqClear : Statement .firqClear := show encode .firqClear &&& mask .firqClear = fixed .firqClear by decide
theorem frameTick : Statement .frameTick := show encode .frameTick &&& mask .frameTick = fixed .frameTick by decide
theorem irqTick : Statement .irqTick := show encode .irqTick &&& mask .irqTick = fixed .irqTick by decide
theorem sndCtrlRead : Statement .sndCtrlRead := show encode .sndCtrlRead &&& mask .sndCtrlRead = fixed .sndCtrlRead by decide
theorem sndCtrlWrite (data : Byte) : Statement (.sndCtrlWrite data) := data_row _ data
theorem sndDataRead : Statement .sndDataRead := show encode .sndDataRead &&& mask .sndDataRead = fixed .sndDataRead by decide
theorem sndDataWrite (data : Byte) : Statement (.sndDataWrite data) := data_row _ data
theorem sndStrobeWrite (data : Byte) : Statement (.sndStrobeWrite data) := data_row _ data
theorem sndReply : Statement .sndReply := show encode .sndReply &&& mask .sndReply = fixed .sndReply by decide
theorem reset : Statement .reset := show encode .reset &&& mask .reset = fixed .reset by decide
theorem reservedE (rest : BitVec 28) : Statement (.reservedE rest) := reserved_row _ rest
theorem reservedF (rest : BitVec 28) : Statement (.reservedF rest) := reserved_row _ rest

end Sys2Proof.Laws.TableRow
end

