-- ==== Sys2Proof/Tests/Slice0.lean ====
section
/-! SUPPORT. Tests of single steps, each with the vector of 95_test_vectors.md that its expected result comes from; the smoke test of
WellFormed; decoding of words written out bit by bit from 30_encoding.md rules R101 and R102; and, for each statement with
hypotheses, a witness that meets them. -/

namespace Sys2Proof.Tests

open Sys2Proof.Machine

/-! ## Helpers -/

/-- The next state of a result, if there is one. -/
def nextOf : Result → Option State
  | .next s => some s
  | .fault _ => none
  | .refused _ => none

/-- Whether a result is that refusal. -/
def isRefusal (r : Refusal) : Result → Bool
  | .refused r' => r == r'
  | .next _ => false
  | .fault _ => false

/-- Issue a word as the very next transaction, and run it. -/
def send (w : Nat) (s : State) : Option State := nextOf (step (s.withFetchWord 32 w))

/-- A state of REF at power-on in which the controller gives one answer to each protection query. -/
def protectedBy (active : Bool) (mask : Addr) : State :=
  { State.reset with answers := { Answers.none with protActive := [active], protMask := [mask] } }

/-- REF with the legacy coprocessor, and with none. -/
def legacy : State := State.initial { Config.ref with soundVariant := .legacy }
def noSound : State := State.initial { Config.ref with soundPresent := false }

/-- REF with an image of `slices` slices of 0x4000 bytes. -/
def withImage (slices base fixed : Nat) : Config :=
  { Config.ref with image := imgA slices, baseOffset := base, fixedRomOffset := fixed }

/-! ## Decoding: one word for every row of the opcode table, bit by bit (R101, R102; EN-1 to EN-12) -/

theorem test_decode_busRead :
    decode 0b0000_0000_0100000000000000_00000000 = .decoded (.busRead 0x4000) ∧
    decode 0b0000_0000_1111111111111111_00000000 = .decoded (.busRead 0xFFFF) := by decide

theorem test_decode_busWrite :
    decode 0b0001_0000_0000111111111111_10101010 = .decoded (.busWrite 0x0FFF 0xAA) ∧
    decode 0b0001_0000_1111111111111111_11111111 = .decoded (.busWrite 0xFFFF 0xFF) := by decide

/-- The sub-rows share the words of BUS_READ; the region of the address tells them apart (R104). -/
theorem test_decode_busRead_subRows :
    (encode (.busReadRam 0x2FFF) = 0b0000_0000_0010111111111111_00000000 ∧ region Config.ref 0x2FFF = .ram) ∧
    (encode (.busReadFree 0x3FAF) = 0b0000_0000_0011111110101111_00000000 ∧ region Config.ref 0x3FAF = .free) ∧
    (encode (.busReadIo 0x3FB0) = 0b0000_0000_0011111110110000_00000000 ∧ region Config.ref 0x3FB0 = .io) ∧
    (encode (.busReadBank 0x7FFF) = 0b0000_0000_0111111111111111_00000000 ∧ region Config.ref 0x7FFF = .bank) ∧
    (encode (.busReadRom 0x8000) = 0b0000_0000_1000000000000000_00000000 ∧ region Config.ref 0x8000 = .rom) ∧
    decode 0b0000_0000_0010111111111111_00000000 = .decoded (.busRead 0x2FFF) ∧
    decode 0b0000_0000_0011111110101111_00000000 = .decoded (.busRead 0x3FAF) ∧
    decode 0b0000_0000_0011111110110000_00000000 = .decoded (.busRead 0x3FB0) ∧
    decode 0b0000_0000_0111111111111111_00000000 = .decoded (.busRead 0x7FFF) ∧
    decode 0b0000_0000_1000000000000000_00000000 = .decoded (.busRead 0x8000) := by decide

/-- The sub-rows share the words of BUS_WRITE (R104). -/
theorem test_decode_busWrite_subRows :
    encode (.busWriteRam 0x0000 0x01) = 0b0001_0000_0000000000000000_00000001 ∧
    encode (.busWriteFree 0x3000 0x77) = 0b0001_0000_0011000000000000_01110111 ∧
    encode (.busWriteIo 0x3FFF 0x80) = 0b0001_0000_0011111111111111_10000000 ∧
    encode (.busWriteBank 0x4000 0x12) = 0b0001_0000_0100000000000000_00010010 ∧
    encode (.busWriteRom 0xFFFF 0xFF) = 0b0001_0000_1111111111111111_11111111 ∧
    decode 0b0001_0000_0000000000000000_00000001 = .decoded (.busWrite 0x0000 0x01) ∧
    decode 0b0001_0000_0011000000000000_01110111 = .decoded (.busWrite 0x3000 0x77) ∧
    decode 0b0001_0000_0011111111111111_10000000 = .decoded (.busWrite 0x3FFF 0x80) ∧
    decode 0b0001_0000_0100000000000000_00010010 = .decoded (.busWrite 0x4000 0x12) := by decide

theorem test_decode_bankSelect :
    decode 0b0010_0000_0000000000000000_00100101 = .decoded (.bankSelect 0x25) := by decide

theorem test_decode_lines_and_ticks :
    decode 0b0011_0000_0000000000000000_00000000 = .decoded .irqClear ∧
    decode 0b0100_0000_0000000000000000_00000000 = .decoded .firqClear ∧
    decode 0b0101_0000_0000000000000000_00000000 = .decoded .frameTick ∧
    decode 0b0110_0000_0000000000000000_00000000 = .decoded .irqTick := by decide

theorem test_decode_sound :
    decode 0b0111_0000_0000000000000000_00000000 = .decoded .sndCtrlRead ∧
    decode 0b1000_0000_0000000000000000_00110100 = .decoded (.sndCtrlWrite 0x34) ∧
    decode 0b1001_0000_0000000000000000_00000000 = .decoded .sndDataRead ∧
    decode 0b1010_0000_0000000000000000_00010010 = .decoded (.sndDataWrite 0x12) ∧
    decode 0b1011_0000_0000000000000000_01010110 = .decoded (.sndStrobeWrite 0x56) ∧
    decode 0b1100_0000_0000000000000000_00000000 = .decoded .sndReply := by decide

theorem test_decode_reset : decode 0b1101_0000_0000000000000000_00000000 = .decoded .reset := by decide

/-- EN-7 to EN-11; and a non-zero field that an operation does not use, for the other operand shapes. -/
theorem test_decode_refuses :
    decode 0b1110_0000_0000000000000000_00000000 = .reservedEncoding ∧
    decode 0b1111_0000_0000000000000000_00000000 = .reservedEncoding ∧
    decode 0b0000_0001_0000000000000000_00000000 = .reservedEncoding ∧
    decode 0b0010_0000_0000000100100011_00000000 = .reservedEncoding ∧
    decode 0b0000_0000_0100000000000000_00000001 = .reservedEncoding ∧
    decode 0b0011_0000_0000000000000000_00000001 = .reservedEncoding ∧
    decode 0b1101_0000_1000000000000000_00000000 = .reservedEncoding ∧
    decode 0b0001_1000_0000000000000000_00000000 = .reservedEncoding := by decide

theorem test_encode_reserved :
    encode (.reservedE 0) = 0b1110_0000_0000000000000000_00000000 ∧
    encode (.reservedF 0xFFFFFFF) = 0b1111_1111_1111111111111111_11111111 := by decide

theorem test_decodeTableWord :
    decodeTableWord 32 0x80000034 = some (.sndCtrlWrite 0x34) ∧ decodeTableWord 32 0xE0000000 = none := by decide

/-! ## Text (R108; EN-1 to EN-3) -/

theorem test_assembleLine :
    assembleLine ['r', 'd', ' ', '0', 'x', '4', '0', '0', '0'] = some (.busRead 0x4000) ∧
    assembleLine ['w', 'r', ' ', '0', 'x', '0', 'F', 'F', 'F', ',', ' ', '0', 'x', 'A', 'A', ' ', ';', 'x'] =
      some (.busWrite 0x0FFF 0xAA) ∧
    assembleLine ['b', 'a', 'n', 'k', ' ', '3', '7'] = some (.bankSelect 0x25) ∧
    assembleLine ['b', 'a', 'n', 'k', ' ', '2', '5', '6'] = none ∧
    assemble [['t', 'i', 'c', 'k'], [';', 'r', 'd'], ['r', 'e', 's', 'e', 't']] = some [.irqTick, .reset] := by decide

theorem test_disassemble :
    disassemble (.busWrite 0x3FAF 0x66) = some ['w', 'r', ' ', '0', 'x', '3', 'F', 'A', 'F', ',', ' ', '0', 'x', '6', '6'] ∧
    disassemble (.reservedE 0) = none := by decide

/-! ## Well-formedness: one ill-formed term for each check -/

theorem test_wf_subRow_accepted :
    Instr.wf Config.ref (.busReadRam 0x2FFF) = true ∧ Instr.wf Config.ref (.busReadFree 0x3FAF) = true ∧
    Instr.wf Config.ref (.busReadIo 0x3FFF) = true ∧ Instr.wf Config.ref (.busWriteBank 0x4000 0) = true ∧
    Instr.wf Config.ref (.busWriteRom 0xFFFF 0) = true ∧ Instr.wf Config.ref (.busWrite 0xFFFF 0) = true := by decide

theorem test_wf_read_subRow_refused :
    Instr.wf Config.ref (.busReadRam 0x3000) = false ∧ Instr.wf Config.ref (.busReadFree 0x2FFF) = false ∧
    Instr.wf Config.ref (.busReadIo 0x3FAF) = false ∧ Instr.wf Config.ref (.busReadBank 0x8000) = false ∧
    Instr.wf Config.ref (.busReadRom 0x7FFF) = false := by decide

theorem test_wf_write_subRow_refused :
    Instr.wf Config.ref (.busWriteRam 0x3000 0) = false ∧ Instr.wf Config.ref (.busWriteFree 0x3FB0 0) = false ∧
    Instr.wf Config.ref (.busWriteIo 0x4000 0) = false ∧ Instr.wf Config.ref (.busWriteBank 0x3FFF 0) = false ∧
    Instr.wf Config.ref (.busWriteRom 0x0000 0) = false := by decide

theorem test_wf_reserved_refused :
    Instr.wf Config.ref (.reservedE 0) = false ∧ Instr.wf Config.ref (.reservedF 0) = false := by decide

/-- The reference configuration is well formed, with `BANK_MASK = 0x1f` (00_scope.md rule R11). -/
theorem test_ref_wf : Config.ref.wf = true ∧ Config.ref.bankMask = 0x1F ∧ Config.ref.imageSize = 0x90000 := by decide

/-- WF1, WF2, WF6 to WF9 each refuse a configuration (WF3 and WF4 below; WF5 and WF7 follow from the others). -/
theorem test_config_refused :
    ({ Config.ref with freeBase := 0 } : Config).wf1 = false ∧
    ({ Config.ref with bankSize := 0x2000 } : Config).wf2 = false ∧
    ({ Config.ref with fixedRomOffset := 0x88001 } : Config).wf6 = false ∧
    ({ Config.ref with freeBase := 0x10001 } : Config).wf7 = false ∧
    ({ Config.ref with replyGatesIrq := true } : Config).wf8 = false ∧
    ({ Config.ref with digitCount := 33 } : Config).wf9 = false := by decide

/-- BR-7: an image shorter than one slice (WF3), which WF5 refuses too. BR-8: a mask of 0x3F with 32 slices (WF4). -/
theorem test_config_refused_bank :
    ({ Config.ref with image := [⟨0x12000, 0⟩], fixedRomOffset := 0 } : Config).wf3 = false ∧
    ({ Config.ref with image := [⟨0x12000, 0⟩], fixedRomOffset := 0 } : Config).wf5 = false ∧
    (withImage 68 0x10000 0x88000).bankMask = 0x3F ∧ (withImage 68 0x10000 0x88000).wf4 = false ∧
    isRefusal .configIllFormed (powerOn (withImage 68 0x10000 0x88000)) = true := by decide

/-! ## One step of each transaction -/

/-- BU-1. -/
theorem test_region :
    [0x0000, 0x2FFF, 0x3000, 0x3FAF, 0x3FB0, 0x3FFF, 0x4000, 0x7FFF, 0x8000, 0xFFFF].map (region Config.ref) =
      [.ram, .ram, .free, .free, .io, .io, .bank, .bank, .rom, .rom] := by decide

/-- BU-6, with bank 5. -/
theorem test_busRead_rom :
    (send 0x00C00000 { State.reset with curBank := 5 }).map (·.result) = some (some 0x23) := by decide

/-- BR-10. -/
theorem test_busRead_bank :
    (send 0x007FFF00 { State.reset with curBank := 5 }).map (·.result) = some (some 0x09) := by decide

/-- PR-8: reads are never protected, and ask nothing. -/
theorem test_busReadRam :
    (nextOf (exec (.busReadRam 0x0FFF) { protectedBy true 0x0FFF with ram := [(0xFFF, 0x3C)] })).map
      (fun t => (t.result, t.answers.protActive)) = some (some 0x3C, [true]) := by decide

/-- BU-2, the read. -/
theorem test_busReadFree :
    (nextOf (exec (.busReadFree 0x3000) { State.reset with free := [(0, 0x77)] })).map (·.result) = some (some 0x77) := by
  decide

/-- BU-4. -/
theorem test_busReadIo :
    (nextOf (exec (.busReadIo 0x3FB0)
      { State.reset with answers := { Answers.none with ctlRead := [0x5A, 0x5B] } })).map
      (fun t => (t.result, t.trace, t.answers.ctlRead)) = some (some 0x5A, [.ctlRead 0], [0x5B]) := by decide

/-- BR-4. -/
theorem test_busReadBank :
    (nextOf (exec (.busReadBank 0x4000) State.reset)).map (·.result) = some (some 0x04) := by decide

/-- BU-6, the last address of the lower half of the fixed ROM. -/
theorem test_busReadRom :
    (nextOf (exec (.busReadRom 0xBFFF) { State.reset with curBank := 0x1F })).map (·.result) = some (some 0x22) := by decide

/-- PR-1. -/
theorem test_busWrite_protected :
    (send 0x100FFFAA (protectedBy true 0x0FFF)).map (fun t => (t.ram, t.trace)) =
      some ([], [.diagProtViolation 0x0FFF 0x0FFF]) := by decide

/-- PR-4. -/
theorem test_busWrite_inactive :
    (send 0x100FFFAA (protectedBy false 0x0FFF)).map (fun t => (t.ram, t.trace)) = some ([(0xFFF, 0xAA)], []) := by decide

/-- PR-3: the masked offset equals the mask. -/
theorem test_busWriteRam_discarded :
    (nextOf (exec (.busWriteRam 0x1FFF 0x11) (protectedBy true 0x0FFF))).map (fun t => (t.ram, t.trace)) =
      some ([], [.diagProtViolation 0x1FFF 0x0FFF]) := by decide

/-- PR-6, the third write. -/
theorem test_busWriteRam_stored :
    (nextOf (exec (.busWriteRam 0x2C00 3) (protectedBy true 0x1C00))).map (fun t => (t.ramByte 0x2C00, t.trace)) =
      some (3, []) := by decide

/-- BU-3. -/
theorem test_busWriteFree :
    (nextOf (exec (.busWriteFree 0x3FAF 0x01) (protectedBy true 0x0000))).map
      (fun t => (t.free, t.trace, t.answers.protActive)) = some ([(0xFAF, 0x01)], [], [true]) := by decide

/-- BU-5. -/
theorem test_busWriteIo :
    (nextOf (exec (.busWriteIo 0x3FFF 0x80) State.reset)).map (fun t => (t.trace, t.ram, t.free)) =
      some ([.ctlWrite 0x4F 0x80], [], []) := by decide

/-- BR-9, the write. -/
theorem test_busWriteBank :
    (nextOf (exec (.busWriteBank 0x4000 0x12) { State.reset with curBank := 5 })).map
      (fun t => t == { State.reset with curBank := 5 }) = some true := by decide

/-- BU-7, the write. -/
theorem test_busWriteRom :
    (nextOf (exec (.busWriteRom 0x8000 0x00) State.reset)).map (fun t => t == State.reset) = some true := by decide

/-- BR-1 and BR-3. -/
theorem test_bankSelect :
    (send 0x20000025 State.reset).map (·.curBank) = some 0x05 ∧
    (send 0x200000FF State.reset).map (·.curBank) = some 0x1F := by decide

/-- BR-6 (`BANK_MASK = 0x0B`, not one less than a power of two) and BR-11 (`BANK_MASK = 0`). -/
theorem test_bankSelect_masks :
    (send 0x20000025 (State.initial (withImage 12 0 0x28000))).map (·.curBank) = some 0x01 ∧
    (send 0x20000004 (State.initial (withImage 12 0 0x28000))).map (·.curBank) = some 0x00 ∧
    (send 0x2000000C (State.initial (withImage 12 0 0x28000))).map (·.curBank) = some 0x08 ∧
    (send 0x200000FF (State.initial (withImage 5 0x10000 0xC000))).map (·.curBank) = some 0 := by decide

/-- BU-8. -/
theorem test_irqClear :
    (send 0x30000000 { State.reset with irqLine := true, firqLine := true, irqCount := 3 }).map
      (fun t => (t.irqLine, t.firqLine, t.irqCount)) = some (false, true, 3) := by decide

/-- BU-10. -/
theorem test_firqClear :
    (send 0x40000000 { State.reset with irqLine := true, firqLine := true }).map (fun t => (t.irqLine, t.firqLine)) =
      some (true, false) := by decide

/-- The permutation table of 95_test_vectors.md section 2.4. -/
theorem test_perm :
    [0x0000, 0xFFFF, 0x8000, 0x4000, 0x2000, 0x1000, 0x0800, 0x0400, 0x0200, 0x0100, 0x0080, 0x007F, 0x00FF, 0xFF00, 0x1234,
      0xA5C3].map perm =
    [0x0000, 0xFFFF, 0x8000, 0x0400, 0x0200, 0x2000, 0x0080, 0x1000, 0x0100, 0x0800, 0x4000, 0x007F, 0x407F, 0xBF80, 0x2134,
      0xDA43] := by decide

/-- TM-1 with two digit positions, and TM-2. -/
theorem test_frameTick :
    (send 0x50000000 { State.initial { Config.ref with digitCount := 2 } with
      frameCount := 0xFFFF, answers := { Answers.none with segment := [0x0080, 0x1234, 0x5555] } }).map
      (fun t => (t.digitOut, t.trace, t.frameCount, t.answers.segment)) =
      some ([0x4000, 0x2134], [.ctlQuerySegment 0, .ctlQuerySegment 1, .ctlClearSegments], 0, [0x5555]) := by decide

/-- TM-3. -/
theorem test_frameTick_no_digits :
    (send 0x50000000 { State.initial { Config.ref with digitCount := 0 } with frameCount := 4 }).map
      (fun t => (t.digitOut, t.trace, t.frameCount)) = some ([], [.ctlClearSegments], 5) := by decide

/-- TM-5 and TM-7. -/
theorem test_irqTick :
    (send 0x60000000 { State.reset with irqLine := true, firqLine := true, irqCount := 1 }).map
      (fun t => (t.irqLine, t.firqLine, t.irqCount, t.trace)) = some (true, true, 2, []) := by decide

/-- TM-6. -/
theorem test_irqTick_wraps :
    (send 0x60000000 { State.reset with irqCount := 0xFFFFFFFF }).map (fun t => (t.irqLine, t.irqCount)) =
      some (true, 0) := by decide

/-- SB-1 with an answer, and SB-6. -/
theorem test_sndCtrlRead :
    (send 0x70000000 { State.reset with answers := { Answers.none with priCtrlRead := [0xC3] } }).map
      (fun t => (t.result, t.trace)) = some (some 0xC3, [.priCtrlRead]) ∧
    (send 0x70000000 legacy).map (fun t => (t.result, t.trace)) = some (some 0, []) := by decide

/-- SB-3 with an answer, and SB-10. -/
theorem test_sndDataRead :
    (send 0x90000000 { State.reset with answers := { Answers.none with priDataRead := [0x3C] } }).map
      (fun t => (t.result, t.trace)) = some (some 0x3C, [.priDataRead]) ∧
    (send 0x90000000 noSound).map (fun t => (t.result, t.trace)) = some (some 0, []) := by decide

/-- SB-2, SB-7 and SB-10. -/
theorem test_sndCtrlWrite :
    (send 0x80000034 State.reset).map (·.trace) = some [.priCtrlWrite 0x34] ∧
    (send 0x80000034 legacy).map (·.trace) = some [.legData 0x34, .legTrigger true] ∧
    (send 0x80000034 noSound).map (·.trace) = some [] := by decide

/-- SB-4, SB-8 and SB-10. -/
theorem test_sndDataWrite :
    (send 0xA0000012 State.reset).map (·.trace) = some [.priDataWrite 0x12] ∧
    (send 0xA0000012 legacy).map (·.trace) = some [.legData 0x12] ∧
    (send 0xA0000012 noSound).map (·.trace) = some [] := by decide

/-- SB-5, SB-9 and SB-10. -/
theorem test_sndStrobeWrite :
    (send 0xB0000056 State.reset).map (·.trace) = some [] ∧
    (send 0xB0000056 legacy).map (·.trace) = some [.legData 0x56, .legTrigger true, .legTrigger false] ∧
    (send 0xB0000056 noSound).map (·.trace) = some [] := by decide

/-- SB-11. -/
theorem test_sndReply :
    (send 0xC0000000 State.reset).map (fun t => (t.firqLine, t.irqLine, t.trace)) = some (true, false, []) := by decide

/-- SB-13. -/
theorem test_sndReply_refused :
    isRefusal .noReplySource (step (legacy.withFetchWord 32 0xC0000000)) = true ∧
    isRefusal .noReplySource (step (noSound.withFetchWord 32 0xC0000000)) = true := by decide

/-- The start of RS-1. -/
def beforeReset : State :=
  { State.reset with curBank := 5, ram := [(0x10, 0x99)], frameCount := 7, irqCount := 9, trace := [.priCtrlRead] }

/-- RS-1; the values that RESET draws are open, so only their number is tested. -/
theorem test_reset :
    (send 0xD0000000 beforeReset).map (fun t => (t.curBank, t.ram, t.digitOut.length)) = some (0, [], 32) ∧
    (send 0xD0000000 beforeReset).map (fun t => (t.frameCount, t.irqCount, t.trace)) = some (0, 0, [.priCtrlRead]) := by decide

/-- RS-4: the periodic timer keeps its old schedule, 10/976 s; the unit is 1/58560 s. -/
theorem test_reset_keeps_schedule :
    (send 0xD0000000 { State.reset with nextIrq := 600 }).map (fun t => (t.nextIrq, t.nextFrame)) = some (600, 976) := by
  decide

/-- EN-7: a reserved word is refused. -/
theorem test_reserved_refused :
    isRefusal .reservedEncoding (step (State.reset.withFetchWord 32 0xE0000000)) = true ∧
    isRefusal .reservedEncoding (exec (.reservedF 1) State.reset) = true := by decide

/-- TM-8: with no input the first event after reset is the periodic timer's, at 1/976 s. -/
theorem test_first_event :
    (nextOf (step State.reset)).map (fun t => (t.now, t.irqCount, t.frameCount, t.nextIrq)) = some (60, 1, 0, 120) := by decide

/-- R83: inputs due at 100 and then 50, issued in that order, run in the order of time, the one due at 50 before the periodic
timer at 60, and the one due at 100 after it. -/
theorem test_scheduled_order :
    (nextOf (step { State.reset with inputs := [⟨some 100, 0x30000000⟩, ⟨some 50, 0x20000025⟩] })).map
      (fun t => (t.now, t.curBank, t.inputs)) = some (50, 5, [⟨some 100, 0x30000000⟩]) ∧
    (nextOf (step { State.reset with inputs := [⟨some 100, 0x30000000⟩], now := 50 })).map
      (fun t => (t.now, t.irqCount, t.inputs)) = some (60, 1, [⟨some 100, 0x30000000⟩]) := by decide

/-- SND_REPLY and FIRQ_CLEAR scheduled at one instant, in that order of issue, with an answer about their order. -/
def replyAndClear (k : Nat) : State :=
  { State.reset with inputs := [⟨some 50, 0xC0000000⟩, ⟨some 50, 0x40000000⟩],
                     answers := { Answers.none with inputOrder := [k] } }

/-- R255: the model admits both orders of the pair. -/
theorem test_one_instant_both_orders :
    (nextOf (step (replyAndClear 0))).map (fun t => (t.firqLine, t.inputs, t.answers.inputOrder)) =
      some (true, [⟨some 50, 0x40000000⟩], []) ∧
    (nextOf (step (replyAndClear 1))).map (fun t => (t.firqLine, t.inputs, t.answers.inputOrder)) =
      some (false, [⟨some 50, 0xC0000000⟩], []) := by decide

/-- TM-8: both timers are due at 0.25 s, as frame 15 and interrupt 244. -/
theorem test_coincidence : 15 * framePeriod = 244 * irqPeriod ∧ 4 * (15 * framePeriod) = unitsPerSecond := by decide

/-! ## Witnesses: states and operands that meet a statement's hypotheses together -/

/-- The power-on state of REF is a good state. -/
theorem test_witness_Inv : State.reset.Inv := by decide

theorem test_witness_DecodeOfEncodeIsTheTransaction :
    Instr.wf Config.ref (.busWriteFree 0x3000 0x77) = true ∧
    Instr.wf Config.ref (.bankSelect 0xFF) = true ∧ (Instr.bankSelect 0xFF).isTransaction = true := by decide

theorem test_witness_EncodeIsInjectiveAtEachTableLevel :
    Instr.wf Config.ref (.busReadIo 0x3FB0) = true ∧
    (Instr.busReadIo 0x3FB0).subRow.isSome = (Instr.busReadIo 0x3FB0).subRow.isSome ∧
    encode (.busReadIo 0x3FB0) = encode (.busReadIo 0x3FB0) := by decide

theorem test_witness_EncodeOfDecodeIsTheWord : decode 0x10FFFFFF = .decoded (.busWrite 0xFFFF 0xFF) := by decide

theorem test_witness_AssemblerReadsBackTheText : disassemble .irqTick = some ['t', 'i', 'c', 'k'] := by decide

theorem test_witness_IllFormedConfigurationIsRefused :
    ({ Config.ref with replyGatesIrq := true } : Config).wf = false ∧
    ({ State.reset with cfg := { Config.ref with replyGatesIrq := true } } : State).cfg.wf = false := by decide

theorem test_witness_StepRunsTheDecodedTransaction :
    State.reset.cfg.wf = true ∧ decode State.reset.nextEvent.1 = .decoded .irqTick ∧
    decode (State.reset.withFetchWord 32 0xF0000000).nextEvent.1 = .reservedEncoding := by decide

theorem test_witness_IssuedInstructionIsTheVeryNextStep :
    State.reset.cfg.wf = true ∧ Instr.wf State.reset.cfg (.busReadBank 0x4000) = true := by decide

/-- The inputs of a witness: a RESET due at 100, one due at `due`, and one due at 200, issued in that order. -/
def threeInputs (due : Option Nat) : List Input := [⟨some 100, 0xD0000000⟩, ⟨due, 0x30000000⟩, ⟨some 200, 0x40000000⟩]

/-- The second input is the earliest, with no time, before both timers, or at one instant with the periodic timer; and each other
clause: no input, an input after either timer, an order answered either way or not at all. -/
theorem test_witness_TimelineIsOrderedByTime :
    (∀ due ∈ [none, some 59, some 60],
      threeInputs due = [⟨some 100, 0xD0000000⟩] ++ ⟨due, 0x30000000⟩ :: [⟨some 200, 0x40000000⟩] ∧
      Input.before ⟨due, 0x30000000⟩ ⟨some 100, 0xD0000000⟩ = true ∧
      Input.before ⟨some 200, 0x40000000⟩ ⟨due, 0x30000000⟩ = false) ∧
    State.reset.inputs = [] ∧ (59 < State.reset.nextFrame ∧ 59 < State.reset.nextIrq) ∧ State.reset.nextIrq < 61 ∧
    { State.reset with nextIrq := 1020 }.nextFrame < 977 ∧ 60 = min State.reset.nextFrame State.reset.nextIrq ∧
    { Answers.none with timerFirst := [false] }.timerFirst = false :: [] ∧
    { Answers.none with timerFirst := [true] }.timerFirst = true :: [] ∧ State.reset.answers.timerFirst = [] := by decide

/-- The clauses of an input's own event: a lone input; of two scheduled at one instant, the first and the last, by an answer that is
taken modulo 2. With no answer the free value chooses one of the two. -/
theorem test_witness_TimelineIsOrderedByTime_at_one_instant :
    dueCount 50 ([⟨some 100, 0xD0000000⟩] ++ []) = 0 ∧
    dueCount 50 ([] ++ [⟨some 50, 0x40000000⟩]) = 1 ∧ 2 % (1 + 1) = dueCount 50 [] ∧
    dueCount 50 ([⟨some 50, 0xC0000000⟩] ++ []) = 1 ∧ 1 % (1 + 1) = dueCount 50 [⟨some 50, 0xC0000000⟩] ∧
    { Answers.none with inputOrder := [2] }.inputOrder = 2 :: [] ∧
    { Answers.none with inputOrder := [1] }.inputOrder = 1 :: [] ∧ State.reset.answers.inputOrder = [] := by decide

theorem test_witness_TimersKeepTheirSchedule : Config.ref.wf = true := by decide

/-- The addresses on both sides of every boundary, as in BU-1. -/
theorem test_witness_RegionIsDecidedByTheBoundaries :
    Config.ref.wf = true ∧ (0x2FFF : Addr).toNat < Config.ref.freeBase ∧
    (Config.ref.freeBase ≤ (0x3000 : Addr).toNat ∧ (0x3FAF : Addr).toNat < Config.ref.ioBase) ∧
    (Config.ref.ioBase ≤ (0x3FB0 : Addr).toNat ∧ (0x3FFF : Addr).toNat < Config.ref.bankBase) ∧
    (Config.ref.bankBase ≤ (0x4000 : Addr).toNat ∧ (0x7FFF : Addr).toNat < Config.ref.romBase) ∧
    Config.ref.romBase ≤ (0x8000 : Addr).toNat := by decide

/-- The good state in which a BUS_READ of the controller's window, answered by a free value, completes too. -/
theorem test_witness_BusReadDispatchesByRegion :
    State.reset.Inv ∧ ∃ t, exec (.busRead 0x3FB0) State.reset = .next t := ⟨by decide, _, rfl⟩

theorem test_witness_SubRowOutsideItsRegionIsRefused :
    (Instr.busReadRam 0x3000).subRow = some (.ram, 0x3000) ∧ region State.reset.cfg 0x3000 ≠ .ram := by decide

theorem test_witness_RamReadReturnsTheStoredByte :
    (0x0000 : Addr).toNat < State.reset.cfg.ramSize ∧ (0x2FFF : Addr).toNat < State.reset.cfg.ramSize := by decide

/-- The two clauses of a protected write, at offsets next to each other; and the first with protection inactive. -/
theorem test_witness_RamWriteStoresUnlessProtected :
    (0x0FFE : Addr).toNat < State.reset.cfg.ramSize ∧
    (0x0FFE &&& (protectedBy true 0x0FFF).afterProtActive.answerProtMask ≠
      (protectedBy true 0x0FFF).afterProtActive.answerProtMask) ∧
    (0x0FFF : Addr).toNat < State.reset.cfg.ramSize ∧ (protectedBy true 0x0FFF).answerProtActive = true ∧
    (0x0FFF &&& (protectedBy true 0x0FFF).afterProtActive.answerProtMask =
      (protectedBy true 0x0FFF).afterProtActive.answerProtMask) ∧
    (protectedBy false 0x0FFF).answerProtActive = false := by decide

theorem test_witness_ProtectionIsSampledOncePerWrite :
    (0x2FFF : Addr).toNat < (protectedBy true 0xC000).cfg.ramSize ∧
    (protectedBy true 0xC000).answers.protActive = true :: [] ∧
    (protectedBy true 0xC000).answers.protMask = 0xC000 :: [] := by decide

/-- The first and the last address of `FREE`, the first never written. -/
theorem test_witness_FreeReadReturnsTheStoredByte :
    (State.reset.cfg.freeBase ≤ (0x3000 : Addr).toNat ∧ (0x3000 : Addr).toNat < State.reset.cfg.ioBase) ∧
    State.reset.free.lookup ((0x3000 : Addr).toNat - State.reset.cfg.freeBase) = none ∧
    (State.reset.cfg.freeBase ≤ (0x3FAF : Addr).toNat ∧ (0x3FAF : Addr).toNat < State.reset.cfg.ioBase) := by decide

theorem test_witness_FreeWriteStoresUnprotected :
    State.reset.cfg.freeBase ≤ (0x3FAF : Addr).toNat ∧ (0x3FAF : Addr).toNat < State.reset.cfg.ioBase ∧
    (Instr.busWriteFree 0x3FAF 1 = .busWrite 0x3FAF 1 ∨ Instr.busWriteFree 0x3FAF 1 = .busWriteFree 0x3FAF 1) := by decide

theorem test_witness_IoReadIsForwarded :
    State.reset.cfg.wf = true ∧ State.reset.cfg.ioBase ≤ (0x3FFF : Addr).toNat ∧
    (0x3FFF : Addr).toNat < State.reset.cfg.bankBase ∧
    { State.reset with answers := { Answers.none with ctlRead := [0x5A] } }.answers.ctlRead = 0x5A :: [] ∧
    State.reset.answers.ctlRead = [] := by decide

theorem test_witness_IoWriteIsForwarded :
    State.reset.cfg.wf = true ∧ State.reset.cfg.ioBase ≤ (0x3FB0 : Addr).toNat ∧
    (0x3FB0 : Addr).toNat < State.reset.cfg.bankBase ∧
    (Instr.busWriteIo 0x3FB0 1 = .busWrite 0x3FB0 1 ∨ Instr.busWriteIo 0x3FB0 1 = .busWriteIo 0x3FB0 1) := by decide

theorem test_witness_WindowReadReturnsTheSliceByte :
    State.reset.Inv ∧ State.reset.cfg.bankBase ≤ (0x4000 : Addr).toNat ∧ (0x4000 : Addr).toNat < State.reset.cfg.romBase ∧
    (0x7FFF : Addr).toNat < State.reset.cfg.romBase := by decide

theorem test_witness_RomReadReturnsTheFixedByte :
    State.reset.cfg.wf = true ∧ State.reset.cfg.romBase ≤ (0x8000 : Addr).toNat ∧
    State.reset.cfg.romBase ≤ (0xFFFF : Addr).toNat := by decide

/-- The last address of the window and the first of the fixed ROM. -/
theorem test_witness_WritesToRomChangeNothing :
    State.reset.cfg.wf = true ∧ State.reset.cfg.bankBase ≤ (0x7FFF : Addr).toNat ∧
    (0x7FFF : Addr).toNat < State.reset.cfg.romBase ∧ State.reset.cfg.romBase ≤ (0x8000 : Addr).toNat := by decide

/-- 0x25 lies above `BANK_MASK`. -/
theorem test_witness_BankSelectIsIdempotentUnderMasking :
    State.reset.cfg.wf = true ∧ (0x25 : Byte).toNat &&& State.reset.cfg.bankMask = 5 := by decide

theorem test_witness_WindowShowsTheSelectedSlice :
    State.reset.Inv ∧ 0 < State.reset.cfg.bankSize ∧ 0x3FFF < State.reset.cfg.bankSize := by decide

theorem test_witness_ReadsHaveNoSideEffects :
    region State.reset.cfg 0x4000 ≠ .io ∧ ∃ t, exec (.busRead 0x4000) State.reset = .next t := ⟨by decide, _, rfl⟩

theorem test_witness_ReadAfterWriteReturnsTheByte :
    region (protectedBy false 0).cfg 0x2FFF = .ram ∧
    isProtected (protectedBy false 0).answerProtActive (protectedBy false 0).afterProtActive.answerProtMask 0x2FFF = false ∧
    region (protectedBy false 0).cfg 0x3000 = .free := by decide

theorem test_witness_BusWriteChangesOnlyTheStoredByte :
    Instr.busWriteFree 0x3000 1 ∈ [Instr.busWrite 0x3000 1, .busWriteRam 0x3000 1, .busWriteFree 0x3000 1, .busWriteIo 0x3000 1,
      .busWriteBank 0x3000 1, .busWriteRom 0x3000 1] ∧
    ((0x3001 : Addr) ≠ 0x3000 ∨ ¬ (region State.reset.cfg 0x3000 = .free ∨ region State.reset.cfg 0x3000 = .ram ∧
      isProtected State.reset.answerProtActive State.reset.afterProtActive.answerProtMask 0x3000 = false)) ∧
    ∃ t, exec (.busWriteFree 0x3000 1) State.reset = .next t := ⟨by decide, .inl (by decide), _, rfl⟩

/-- One transaction for each clause. -/
theorem test_witness_NonStoringTransactionsKeepEveryByte :
    ((∃ t, exec .irqTick State.reset = .next t) ∧ (∀ a d, Instr.irqTick.transaction ≠ .busWrite a d) ∧
      (∀ d, Instr.irqTick ≠ .bankSelect d) ∧ Instr.irqTick ≠ .reset) ∧
    ((∃ t, exec (.bankSelect 5) State.reset = .next t) ∧ region State.reset.cfg 0x8000 ≠ .bank) ∧
    ((∃ t, exec .reset State.reset = .next t) ∧ region State.reset.cfg 0xFFFF = .rom) := by
  refine ⟨⟨⟨_, rfl⟩, ?_, ?_, by decide⟩, ⟨⟨_, rfl⟩, by decide⟩, ⟨_, rfl⟩, by decide⟩
  · intro a d h; cases h
  · intro d h; cases h

theorem test_witness_FrameTickLatchesClearsAndCounts :
    0 < State.reset.cfg.digitQueries.length ∧ 31 < State.reset.cfg.digitQueries.length ∧ State.reset.cfg.wf = true ∧
    31 < State.reset.cfg.digitCount := by decide

theorem test_witness_PermTakesEachOutputBitFromItsInputBit :
    permSource[1]? = some 7 ∧ permSource[15]? = some 0 := by decide

theorem test_witness_RepeatedIrqTicksKeepTheLineAsserted : State.reset.cfg.wf = true ∧ 0 < 1 := by decide

theorem test_witness_SoundCtrlReadByCase :
    (State.reset.cfg.soundPresent = true ∧ State.reset.cfg.soundVariant = .primary) ∧
    { State.reset with answers := { Answers.none with priCtrlRead := [1] } }.answers.priCtrlRead = 1 :: [] ∧
    State.reset.answers.priCtrlRead = [] ∧ legacy.cfg.soundVariant = .legacy ∧ noSound.cfg.soundPresent = false := by decide

theorem test_witness_SoundDataReadByCase :
    (State.reset.cfg.soundPresent = true ∧ State.reset.cfg.soundVariant = .primary) ∧
    { State.reset with answers := { Answers.none with priDataRead := [1] } }.answers.priDataRead = 1 :: [] ∧
    State.reset.answers.priDataRead = [] ∧ legacy.cfg.soundVariant = .legacy ∧ noSound.cfg.soundPresent = false := by decide

theorem test_witness_SoundReplyAssertsTheFastLine :
    (State.reset.cfg.soundPresent = true ∧ State.reset.cfg.soundVariant = .primary) ∧
    legacy.cfg.soundVariant = .legacy ∧ noSound.cfg.soundPresent = false := by decide

theorem test_witness_LegacyLatchPrecedesEveryPulse :
    legacy.cfg.soundPresent = true ∧ legacy.cfg.soundVariant = .legacy ∧
    ∃ t, exec (.sndCtrlWrite 7) legacy = .next t ∧ t.trace = legacy.trace ++ [.legData 7, .legTrigger true] ∧
      [Event.legData 7, .legTrigger true] = [.legData 7] ++ .legTrigger true :: [] := ⟨rfl, rfl, _, rfl, rfl, rfl⟩

/-- A state for each clause in which the line is about to move. -/
theorem test_witness_OnlyTheNamedTransactionsMoveTheLines :
    (∃ t, exec .irqTick State.reset = .next t ∧ State.reset.irqLine = false ∧ t.irqLine = true) ∧
    (∃ t, exec .irqClear { State.reset with irqLine := true } = .next t ∧ t.irqLine = false) ∧
    (∃ t, exec .sndReply State.reset = .next t ∧ State.reset.firqLine = false ∧ t.firqLine = true) ∧
    (∃ t, exec .firqClear { State.reset with firqLine := true } = .next t ∧ t.firqLine = false) :=
  ⟨⟨_, rfl, rfl, rfl⟩, ⟨_, rfl, rfl⟩, ⟨_, rfl, rfl, rfl⟩, ⟨_, rfl, rfl⟩⟩

theorem test_witness_InterruptLinesAreIndependent :
    (∃ t, exec .irqTick State.reset = .next t) ∧ Instr.irqTick ∉ [.sndReply, .firqClear, .reset] ∧
    (∃ t, exec .firqClear State.reset = .next t) ∧ Instr.firqClear ∉ [.irqTick, .irqClear, .reset] :=
  ⟨⟨_, rfl⟩, by decide, ⟨_, rfl⟩, by decide⟩

theorem test_witness_PowerOnState : Config.ref.wf = true := by decide

theorem test_witness_PowerOnIsAGoodState : (withImage 5 0x10000 0xC000).wf = true := by decide

theorem test_witness_ResetClearsAndDraws : 0 < State.reset.cfg.digitCount ∧ 31 < State.reset.cfg.digitCount := by decide

/-- A state in order with an input due at the very time of the latest event, and its step. -/
theorem test_witness_EveryStepKeepsTheOrderOfTime :
    { State.reset with now := 50, inputs := [⟨some 100, 0xD0000000⟩, ⟨some 50, 0x20000025⟩] }.InOrder ∧
    ∃ t, step { State.reset with now := 50, inputs := [⟨some 100, 0xD0000000⟩, ⟨some 50, 0x20000025⟩] } = .next t :=
  ⟨by decide, _, rfl⟩

/-- The periodic timer due first, at reset; the frame timer due first; and both due at 0.25 s. -/
theorem test_witness_QuietStepFiresTheDueTimer :
    (State.reset.cfg.wf = true ∧ State.reset.inputs = [] ∧ State.reset.now ≤ State.reset.nextFrame ∧
      State.reset.now ≤ State.reset.nextIrq ∧ State.reset.nextIrq < State.reset.nextFrame) ∧
    { State.reset with now := 960, nextIrq := 1020 }.nextFrame < { State.reset with now := 960, nextIrq := 1020 }.nextIrq ∧
    ({ State.reset with now := 14580, nextFrame := 14640, nextIrq := 14640 }.nextFrame =
      { State.reset with now := 14580, nextFrame := 14640, nextIrq := 14640 }.nextIrq ∧
      State.reset.cfg.frameTimerFirst = true) ∧
    ({ State.initial { Config.ref with frameTimerFirst := false } with
        now := 14580, nextFrame := 14640, nextIrq := 14640 }.cfg.wf = true ∧
      ({ Config.ref with frameTimerFirst := false } : Config).frameTimerFirst = false) := by decide

theorem test_witness_StepKeepsTheInvariant :
    State.reset.Inv ∧ ∃ t, step (State.reset.withFetchWord 32 0x20000025) = .next t := ⟨by decide, _, rfl⟩

theorem test_witness_ReachableBankIsMasked :
    Config.ref.wf = true ∧
    ∃ t, Sys2Proof.core.run 1 { State.initial Config.ref with inputs := [⟨none, 0x20000025⟩], answers := Answers.none } =
      .next t := ⟨by decide, _, rfl⟩

/-- A good state with a step of each outcome. -/
theorem test_witness_NoStepFaultsFromAGoodState :
    (State.reset.Inv ∧ ∃ t, step State.reset = .next t) ∧
    (State.withFetchWord State.reset 32 0xE0000000).Inv ∧
    isRefusal .reservedEncoding (step (State.reset.withFetchWord 32 0xE0000000)) = true :=
  ⟨⟨by decide, _, rfl⟩, by decide, by decide⟩

/-- A transaction that needs no primary coprocessor, and SND_REPLY with one. -/
theorem test_witness_WellFormedTransactionsComplete :
    State.reset.Inv ∧ Instr.wf State.reset.cfg (.busWriteIo 0x3FFF 0x80) = true ∧
    Instr.wf State.reset.cfg .sndReply = true ∧ State.reset.cfg.soundPresent = true ∧
    State.reset.cfg.soundVariant = .primary := by decide

/-- A next state in which every premise of the field clauses holds. -/
theorem test_witness_EachFieldHasItsOwnWriters :
    (∃ t, exec .irqClear State.reset = .next t) ∧ (∀ d, Instr.irqClear ≠ .bankSelect d) ∧ Instr.irqClear ≠ .reset ∧
    Instr.irqClear ≠ .frameTick ∧ Instr.irqClear ≠ .irqTick ∧ ∀ a d, Instr.irqClear.transaction ≠ .busWrite a d := by
  refine ⟨⟨_, rfl⟩, ?_, by decide, by decide, by decide, ?_⟩
  · intro d h; cases h
  · intro a d h; cases h

end Sys2Proof.Tests
end

section
/-! PROOFS. Every step ends in a next state that extends the trace, or in a refusal (00_scope.md rule R15). -/

namespace Sys2Proof.Machine

/-! ## The image bytes that a good state reads -/

/-- The banked window of a good state shows only bytes of the image (40_banked_rom.md rules R132 and R134). -/
theorem State.bankIndex_lt_imageSize {s : State} {a : Addr} (h : s.Inv) (hr : region s.cfg a = .bank) :
    s.bankIndex a < s.cfg.imageSize := by
  obtain ⟨hc, hbank, -⟩ := h
  have ha := region_bounds s.cfg a
  simp only [hr] at ha
  have hw := (Config.facts hc).window_eq_bank
  exact Config.slice_in_image hc (masked_le hbank) (by omega)

/-- The fixed high ROM shows only bytes of the image (44_bus_router.md rule R227). -/
theorem State.romIndex_lt_imageSize {s : State} {a : Addr} (hc : s.cfg.wf = true) (hr : region s.cfg a = .rom) :
    s.romIndex a < s.cfg.imageSize := by
  have ha := region_bounds s.cfg a
  simp only [hr] at ha
  have hf := (Config.facts hc).rom_in_image
  have htop := a.isLt
  unfold State.romIndex
  omega

/-! ## The two outcomes of R15 -/

/-- A result that R15 allows after the trace `l`: a next state whose trace extends `l`, or a refusal. -/
def EndsAfter (l : List Event) : Result → Prop
  | .next t => l <+: t.trace
  | .refused _ => True
  | .fault _ => False

@[simp] theorem endsAfter_next {l : List Event} {t : State} : EndsAfter l (.next t) ↔ l <+: t.trace := Iff.rfl

@[simp] theorem endsAfter_refused (l : List Event) (r : Refusal) : EndsAfter l (.refused r) := trivial

theorem EndsAfter.next_or_refused {l : List Event} {r : Result} (h : EndsAfter l r) :
    (∃ t es, r = .next t ∧ t.trace = l ++ es) ∨ ∃ q, r = .refused q := by
  cases r with
  | next t =>
    obtain ⟨es, hes⟩ := h
    exact .inl ⟨t, es, rfl, hes.symm⟩
  | refused q => exact .inr ⟨q, rfl⟩
  | fault f => exact h.elim

/-! ## The transactions -/

theorem State.returningImage_endsAfter {s : State} {i : Nat} (h : i < s.cfg.imageSize) :
    EndsAfter s.trace (s.returningImage i) := by
  obtain ⟨b, hb⟩ := s.cfg.imageByte_eq_some h
  simp [State.returningImage_of_some hb]

theorem inRegion_endsAfter {l : List Event} {r : Region} {a : Addr} {s : State} {k : Result}
    (h : region s.cfg a = r → EndsAfter l k) : EndsAfter l (inRegion r a s k) := by
  unfold inRegion
  split
  next hr => exact h hr
  next => trivial

theorem readRam_endsAfter (a : Addr) (s : State) : EndsAfter s.trace (readRam a s) := by simp [readRam]

theorem readFree_endsAfter (a : Addr) (s : State) : EndsAfter s.trace (readFree a s) := by simp [readFree]

theorem readIo_endsAfter (a : Addr) (s : State) : EndsAfter s.trace (readIo a s) := by simp [readIo]

theorem readBank_endsAfter {a : Addr} {s : State} (h : s.Inv) (hr : region s.cfg a = .bank) :
    EndsAfter s.trace (readBank a s) :=
  State.returningImage_endsAfter (State.bankIndex_lt_imageSize h hr)

theorem readRom_endsAfter {a : Addr} {s : State} (h : s.Inv) (hr : region s.cfg a = .rom) :
    EndsAfter s.trace (readRom a s) :=
  State.returningImage_endsAfter (State.romIndex_lt_imageSize h.1 hr)

theorem execBusRead_endsAfter {s : State} (a : Addr) (h : s.Inv) : EndsAfter s.trace (execBusRead a s) := by
  unfold execBusRead
  split
  next => exact readRam_endsAfter a s
  next => exact readFree_endsAfter a s
  next => exact readIo_endsAfter a s
  next hr => exact readBank_endsAfter h hr
  next hr => exact readRom_endsAfter h hr

/-- The one RAM write that emits is the protected one (41_protected_ram.md rule R151). -/
theorem writeRam_endsAfter (a : Addr) (d : Byte) (s : State) : EndsAfter s.trace (writeRam a d s) := by
  cases hp : isProtected s.answerProtActive s.afterProtActive.answerProtMask a with
  | true => simp [writeRam_of_protected d hp]
  | false => simp [writeRam_of_unprotected d hp]

theorem writeFree_endsAfter (a : Addr) (d : Byte) (s : State) : EndsAfter s.trace (writeFree a d s) := by
  simp [writeFree]

theorem writeIo_endsAfter (a : Addr) (d : Byte) (s : State) : EndsAfter s.trace (writeIo a d s) := by simp [writeIo]

theorem writeBank_endsAfter (a : Addr) (d : Byte) (s : State) : EndsAfter s.trace (writeBank a d s) := by
  simp [writeBank]

theorem writeRom_endsAfter (a : Addr) (d : Byte) (s : State) : EndsAfter s.trace (writeRom a d s) := by
  simp [writeRom]

theorem execBusWrite_endsAfter (a : Addr) (d : Byte) (s : State) : EndsAfter s.trace (execBusWrite a d s) := by
  unfold execBusWrite
  split
  next => exact writeRam_endsAfter a d s
  next => exact writeFree_endsAfter a d s
  next => exact writeIo_endsAfter a d s
  next => exact writeBank_endsAfter a d s
  next => exact writeRom_endsAfter a d s

theorem execFrameTick_endsAfter (s : State) : EndsAfter s.trace (execFrameTick s) := by
  simp [execFrameTick_eq, State.afterQueries]

theorem execSndCtrlRead_endsAfter (s : State) : EndsAfter s.trace (execSndCtrlRead s) := by
  unfold execSndCtrlRead
  split <;> simp

theorem execSndCtrlWrite_endsAfter (b : Byte) (s : State) : EndsAfter s.trace (execSndCtrlWrite b s) := by
  unfold execSndCtrlWrite
  split <;> simp

theorem execSndDataRead_endsAfter (s : State) : EndsAfter s.trace (execSndDataRead s) := by
  unfold execSndDataRead
  split <;> simp

theorem execSndDataWrite_endsAfter (b : Byte) (s : State) : EndsAfter s.trace (execSndDataWrite b s) := by
  unfold execSndDataWrite
  split <;> simp

theorem execSndStrobeWrite_endsAfter (b : Byte) (s : State) : EndsAfter s.trace (execSndStrobeWrite b s) := by
  unfold execSndStrobeWrite
  split <;> simp

/-- SND_REPLY is the one transaction that the sound case can refuse (43_sound_bridge.md rule R196). -/
theorem execSndReply_endsAfter (s : State) : EndsAfter s.trace (execSndReply s) := by
  unfold execSndReply
  split <;> simp

/-- In a good state every instruction, well formed or not, has one of the two outcomes: the reads of the image are the only
place where a fault could arise. -/
theorem exec_endsAfter {s : State} (i : Instr) (h : s.Inv) : EndsAfter s.trace (exec i s) := by
  cases i with
  | busRead a => exact execBusRead_endsAfter a h
  | busReadRam a => exact inRegion_endsAfter fun _ => readRam_endsAfter a s
  | busReadFree a => exact inRegion_endsAfter fun _ => readFree_endsAfter a s
  | busReadIo a => exact inRegion_endsAfter fun _ => readIo_endsAfter a s
  | busReadBank a => exact inRegion_endsAfter (readBank_endsAfter h)
  | busReadRom a => exact inRegion_endsAfter (readRom_endsAfter h)
  | busWrite a d => exact execBusWrite_endsAfter a d s
  | busWriteRam a d => exact inRegion_endsAfter fun _ => writeRam_endsAfter a d s
  | busWriteFree a d => exact inRegion_endsAfter fun _ => writeFree_endsAfter a d s
  | busWriteIo a d => exact inRegion_endsAfter fun _ => writeIo_endsAfter a d s
  | busWriteBank a d => exact inRegion_endsAfter fun _ => writeBank_endsAfter a d s
  | busWriteRom a d => exact inRegion_endsAfter fun _ => writeRom_endsAfter a d s
  | bankSelect d => simp [exec, execBankSelect]
  | irqClear => simp [exec, execIrqClear]
  | firqClear => simp [exec, execFirqClear]
  | frameTick => exact execFrameTick_endsAfter s
  | irqTick => simp [exec, execIrqTick]
  | sndCtrlRead => exact execSndCtrlRead_endsAfter s
  | sndCtrlWrite b => exact execSndCtrlWrite_endsAfter b s
  | sndDataRead => exact execSndDataRead_endsAfter s
  | sndDataWrite b => exact execSndDataWrite_endsAfter b s
  | sndStrobeWrite b => exact execSndStrobeWrite_endsAfter b s
  | sndReply => exact execSndReply_endsAfter s
  | reset => simp [exec, execReset]
  | reservedE rest => trivial
  | reservedF rest => trivial

/-! ## The step -/

/-- Choosing the next event touches nothing of the block's own: only the time, the inputs still to come and the answers move on
(20_memory.md rules R83 and R84). -/
theorem State.nextEvent_frame (s : State) :
    ∃ n l ans d, s.nextEvent.2 = { s with now := n, inputs := l, answers := ans, drawn := d } := by
  obtain ⟨he | he, -⟩ | ⟨pre, i, post, -, ⟨-, he⟩ | ⟨t, -, -, -, he | he⟩⟩ := s.nextEvent_cases
  · exact ⟨_, _, _, _, by rw [he]; rfl⟩
  · exact ⟨_, _, _, _, by rw [he]; rfl⟩
  · exact ⟨_, _, _, _, by rw [he]; rfl⟩
  · obtain hc | hc := s.afterInputChoice_cases t <;> exact ⟨_, _, _, _, by rw [he, hc]; rfl⟩
  · obtain hc | hc := s.afterTimerFirst.afterInputChoice_cases t <;> exact ⟨_, _, _, _, by rw [he, hc]; rfl⟩

theorem State.nextEvent_trace (s : State) : s.nextEvent.2.trace = s.trace := by
  obtain ⟨n, l, ans, d, he⟩ := s.nextEvent_frame
  rw [he]

theorem State.Inv.nextEvent {s : State} (h : s.Inv) : s.nextEvent.2.Inv := by
  obtain ⟨n, l, ans, d, he⟩ := s.nextEvent_frame
  rw [he]
  exact h

theorem step_of_reserved {s : State} (hc : s.cfg.wf = true) (hd : decode s.nextEvent.1 = .reservedEncoding) :
    step s = .refused .reservedEncoding := by simp [step, hc, hd]

theorem step_endsAfter {s : State} (h : s.Inv) : EndsAfter s.trace (step s) := by
  cases hd : decode s.nextEvent.1 with
  | decoded i =>
    rw [step_of_decoded h.1 hd, ← s.nextEvent_trace]
    exact exec_endsAfter i h.nextEvent
  | reservedEncoding =>
    rw [step_of_reserved h.1 hd]
    trivial

/-- Settles O56: the invariant keeps every read inside the image, so the one fault of the model cannot arise, and no transaction
removes or alters an event of the trace. -/
theorem noStepFaultsFromAGoodState : Obligations.NoStepFaultsFromAGoodState := by
  unfold Obligations.NoStepFaultsFromAGoodState
  exact fun s h => (step_endsAfter h).next_or_refused

end Sys2Proof.Machine
end

section
/-! PROOFS. The bank register: only BANK_SELECT and RESET write it, each with a masked value, so it is masked in every state that a
run from power-on reaches (10_state.md rule R34). -/

namespace Sys2Proof.Machine

/-! ## The transactions that leave the bank register alone -/

/-- A result that, if it is a next state, has the configuration and the bank register of `s`. -/
def KeepsBank (s : State) : Result → Prop
  | .next t => t.cfg = s.cfg ∧ t.curBank = s.curBank
  | .refused _ => True
  | .fault _ => True

@[simp] theorem keepsBank_next {s t : State} : KeepsBank s (.next t) ↔ t.cfg = s.cfg ∧ t.curBank = s.curBank := Iff.rfl

@[simp] theorem keepsBank_refused (s : State) (r : Refusal) : KeepsBank s (.refused r) := trivial

theorem State.returningImage_keepsBank (s : State) (i : Nat) : KeepsBank s (s.returningImage i) := by
  unfold State.returningImage
  split
  next => simp
  next => trivial

theorem inRegion_keepsBank {r : Region} {a : Addr} {s : State} {k : Result} (h : KeepsBank s k) :
    KeepsBank s (inRegion r a s k) := by
  unfold inRegion
  split
  next => exact h
  next => trivial

theorem readRam_keepsBank (a : Addr) (s : State) : KeepsBank s (readRam a s) := by simp [readRam]

theorem readFree_keepsBank (a : Addr) (s : State) : KeepsBank s (readFree a s) := by simp [readFree]

theorem readIo_keepsBank (a : Addr) (s : State) : KeepsBank s (readIo a s) := by simp [readIo]

theorem readBank_keepsBank (a : Addr) (s : State) : KeepsBank s (readBank a s) := s.returningImage_keepsBank _

theorem readRom_keepsBank (a : Addr) (s : State) : KeepsBank s (readRom a s) := s.returningImage_keepsBank _

theorem execBusRead_keepsBank (a : Addr) (s : State) : KeepsBank s (execBusRead a s) := by
  unfold execBusRead
  split
  next => exact readRam_keepsBank a s
  next => exact readFree_keepsBank a s
  next => exact readIo_keepsBank a s
  next => exact readBank_keepsBank a s
  next => exact readRom_keepsBank a s

theorem writeRam_keepsBank (a : Addr) (d : Byte) (s : State) : KeepsBank s (writeRam a d s) := by
  cases hp : isProtected s.answerProtActive s.afterProtActive.answerProtMask a with
  | true => simp [writeRam_of_protected d hp]
  | false => simp [writeRam_of_unprotected d hp]

theorem writeFree_keepsBank (a : Addr) (d : Byte) (s : State) : KeepsBank s (writeFree a d s) := by simp [writeFree]

theorem writeIo_keepsBank (a : Addr) (d : Byte) (s : State) : KeepsBank s (writeIo a d s) := by simp [writeIo]

theorem writeBank_keepsBank (a : Addr) (d : Byte) (s : State) : KeepsBank s (writeBank a d s) := by simp [writeBank]

theorem writeRom_keepsBank (a : Addr) (d : Byte) (s : State) : KeepsBank s (writeRom a d s) := by simp [writeRom]

theorem execBusWrite_keepsBank (a : Addr) (d : Byte) (s : State) : KeepsBank s (execBusWrite a d s) := by
  unfold execBusWrite
  split
  next => exact writeRam_keepsBank a d s
  next => exact writeFree_keepsBank a d s
  next => exact writeIo_keepsBank a d s
  next => exact writeBank_keepsBank a d s
  next => exact writeRom_keepsBank a d s

theorem execFrameTick_keepsBank (s : State) : KeepsBank s (execFrameTick s) := by
  simp [execFrameTick_eq, State.afterQueries]

theorem execSndCtrlRead_keepsBank (s : State) : KeepsBank s (execSndCtrlRead s) := by
  unfold execSndCtrlRead
  split <;> simp

theorem execSndCtrlWrite_keepsBank (b : Byte) (s : State) : KeepsBank s (execSndCtrlWrite b s) := by
  unfold execSndCtrlWrite
  split <;> simp

theorem execSndDataRead_keepsBank (s : State) : KeepsBank s (execSndDataRead s) := by
  unfold execSndDataRead
  split <;> simp

theorem execSndDataWrite_keepsBank (b : Byte) (s : State) : KeepsBank s (execSndDataWrite b s) := by
  unfold execSndDataWrite
  split <;> simp

theorem execSndStrobeWrite_keepsBank (b : Byte) (s : State) : KeepsBank s (execSndStrobeWrite b s) := by
  unfold execSndStrobeWrite
  split <;> simp

theorem execSndReply_keepsBank (s : State) : KeepsBank s (execSndReply s) := by
  unfold execSndReply
  split <;> simp

/-- The two writers of the bank register are BANK_SELECT and RESET (40_banked_rom.md rules R130 and R133). -/
theorem exec_keepsBank {i : Instr} (s : State) (hsel : ∀ d, i ≠ .bankSelect d) (hres : i ≠ .reset) :
    KeepsBank s (exec i s) := by
  cases i with
  | busRead a => exact execBusRead_keepsBank a s
  | busReadRam a => exact inRegion_keepsBank (readRam_keepsBank a s)
  | busReadFree a => exact inRegion_keepsBank (readFree_keepsBank a s)
  | busReadIo a => exact inRegion_keepsBank (readIo_keepsBank a s)
  | busReadBank a => exact inRegion_keepsBank (readBank_keepsBank a s)
  | busReadRom a => exact inRegion_keepsBank (readRom_keepsBank a s)
  | busWrite a d => exact execBusWrite_keepsBank a d s
  | busWriteRam a d => exact inRegion_keepsBank (writeRam_keepsBank a d s)
  | busWriteFree a d => exact inRegion_keepsBank (writeFree_keepsBank a d s)
  | busWriteIo a d => exact inRegion_keepsBank (writeIo_keepsBank a d s)
  | busWriteBank a d => exact inRegion_keepsBank (writeBank_keepsBank a d s)
  | busWriteRom a d => exact inRegion_keepsBank (writeRom_keepsBank a d s)
  | bankSelect d => exact absurd rfl (hsel d)
  | irqClear => simp [exec, execIrqClear]
  | firqClear => simp [exec, execFirqClear]
  | frameTick => exact execFrameTick_keepsBank s
  | irqTick => simp [exec, execIrqTick]
  | sndCtrlRead => exact execSndCtrlRead_keepsBank s
  | sndCtrlWrite b => exact execSndCtrlWrite_keepsBank b s
  | sndDataRead => exact execSndDataRead_keepsBank s
  | sndDataWrite b => exact execSndDataWrite_keepsBank b s
  | sndStrobeWrite b => exact execSndStrobeWrite_keepsBank b s
  | sndReply => exact execSndReply_keepsBank s
  | reset => exact absurd rfl hres
  | reservedE rest => trivial
  | reservedF rest => trivial

/-! ## What a transaction and a step can do to the bank register -/

theorem exec_bankSelect_eq (d : Byte) (s : State) :
    exec (.bankSelect d) s = .next ((s.setBank (maskedBank s.cfg d)).setResult none) := rfl

theorem exec_reset_eq (s : State) : exec .reset s = .next (s.afterReset.setResult none) := rfl

/-- Everything a transaction can do to the bank register; the configuration it never changes. -/
theorem exec_bank_cases {i : Instr} {s t : State} (h : exec i s = .next t) :
    t.cfg = s.cfg ∧
      ((∃ d, i = .bankSelect d ∧ t.curBank = maskedBank s.cfg d) ∨ (i = .reset ∧ t.curBank = 0) ∨
        t.curBank = s.curBank) := by
  by_cases hsel : ∃ d, i = .bankSelect d
  · obtain ⟨d, rfl⟩ := hsel
    rw [exec_bankSelect_eq] at h
    cases h
    exact ⟨rfl, .inl ⟨d, rfl, rfl⟩⟩
  by_cases hres : i = .reset
  · subst hres
    rw [exec_reset_eq] at h
    cases h
    exact ⟨rfl, .inr (.inl ⟨rfl, rfl⟩)⟩
  · have hk := exec_keepsBank s (not_exists.mp hsel) hres
    rw [h] at hk
    obtain ⟨hcfg, hbank⟩ := hk
    exact ⟨hcfg, .inr (.inr hbank)⟩

/-- A step that ends in a next state ran a decoded transaction. -/
theorem step_next_cases {s t : State} (h : step s = .next t) :
    s.cfg.wf = true ∧ ∃ i, decode s.nextEvent.1 = .decoded i ∧ exec i s.nextEvent.2 = .next t := by
  unfold step at h
  split at h
  next hc =>
    split at h
    next i hd => exact ⟨hc, i, hd, h⟩
    next => cases h
  next => cases h

/-! ## The invariant along a run -/

/-- The configuration is `c`, and the bank register holds no bit outside its mask (10_state.md rule R34). -/
def State.BankMasked (c : Config) (s : State) : Prop := s.cfg = c ∧ s.curBank &&& c.bankMask = s.curBank

theorem maskedBank_and_bankMask (c : Config) (d : Byte) : maskedBank c d &&& c.bankMask = maskedBank c d := by
  simp [maskedBank]

theorem exec_bankMasked {c : Config} {i : Instr} {s t : State} (hs : s.BankMasked c) (h : exec i s = .next t) :
    t.BankMasked c := by
  obtain ⟨rfl, hmask⟩ := hs
  obtain ⟨hcfg, ⟨d, -, hb⟩ | ⟨-, hb⟩ | hb⟩ := exec_bank_cases h
  · exact ⟨hcfg, by rw [hb, maskedBank_and_bankMask]⟩
  · exact ⟨hcfg, by rw [hb, Nat.zero_and]⟩
  · exact ⟨hcfg, by rw [hb, hmask]⟩

theorem State.BankMasked.nextEvent {c : Config} {s : State} (hs : s.BankMasked c) : s.nextEvent.2.BankMasked c := by
  obtain ⟨n, l, ans, d, he⟩ := s.nextEvent_frame
  rw [he]
  exact hs

theorem step_bankMasked {c : Config} {s t : State} (hs : s.BankMasked c) (h : step s = .next t) : t.BankMasked c := by
  obtain ⟨-, i, -, hi⟩ := step_next_cases h
  exact exec_bankMasked hs.nextEvent hi

/-- A run of at least one step begins with a step that ends in a next state, from which the rest runs. -/
theorem run_succ_next_cases {M : Host.Core} {n : Nat} {s t : M.State} (h : M.run (n + 1) s = .next t) :
    ∃ u, M.step s = .next u ∧ M.run n u = .next t := by
  simp only [Host.Core.run] at h
  split at h
  next u hu => exact ⟨u, hu, h⟩
  next => cases h
  next => cases h

/-- What every step keeps, every run keeps. -/
theorem run_keeps {M : Host.Core} {P : M.State → Prop} (hstep : ∀ {s t : M.State}, P s → M.step s = .next t → P t)
    {n : Nat} {s t : M.State} (hs : P s) (h : M.run n s = .next t) : P t := by
  induction n generalizing s with
  | zero =>
    cases h
    exact hs
  | succ n ih =>
    obtain ⟨u, hu, hrun⟩ := run_succ_next_cases h
    exact ih (hstep hs hu) hrun

/-- At power-on the selected bank is 0 (70_reset_and_hazards.md rule R280), whatever is issued or answered. -/
theorem State.initial_bankMasked (c : Config) (ins : List Input) (ans : Answers) :
    State.BankMasked c { State.initial c with inputs := ins, answers := ans } := ⟨rfl, Nat.zero_and _⟩

/-- Settles O55: BANK_SELECT writes a masked value, RESET writes 0 and nothing else writes the bank register, so an induction
over the run carries the mask from power-on. -/
theorem reachableBankIsMasked : Obligations.ReachableBankIsMasked := by
  unfold Obligations.ReachableBankIsMasked
  intro c ins ans n t _ hrun
  obtain ⟨rfl, hmask⟩ := run_keeps step_bankMasked (State.initial_bankMasked c ins ans) hrun
  exact ⟨hmask, rfl⟩

end Sys2Proof.Machine
end

section
/-! PROOFS. The banked window: which byte a read of the `BANK` region returns, and what BANK_SELECT stores (40_banked_rom.md rules
R133 and R134). -/

namespace Sys2Proof.Machine

/-! ## The words -/

theorem decode_busReadWord (a : Addr) : decode (txnWord 0x0 a 0) = .decoded (.busRead a) := by
  simp [decode, withAddrOnly]

theorem decode_bankSelectWord (d : Byte) : decode (txnWord 0x2 0 d) = .decoded (.bankSelect d) := by
  simp [decode, withDataOnly]

/-! ## Reads of the window -/

/-- BUS_READ of an address in the `BANK` region is the read of the banked window (44_bus_router.md rule R221). -/
theorem exec_busRead_of_bank {s : State} {a : Addr} (hr : region s.cfg a = .bank) :
    exec (.busRead a) s = s.returningImage (s.bankIndex a) := by
  change execBusRead a s = _
  simp only [execBusRead, hr, readBank]

theorem exec_busReadBank_of_bank {s : State} {a : Addr} (hr : region s.cfg a = .bank) :
    exec (.busReadBank a) s = s.returningImage (s.bankIndex a) := inRegion_of_eq _ hr

/-- Settles O24: the invariant keeps the window's index inside the image, so the byte there exists, and both forms of the read
return it. -/
theorem windowReadReturnsTheSliceByte : Obligations.WindowReadReturnsTheSliceByte := by
  unfold Obligations.WindowReadReturnsTheSliceByte
  intro s a hinv hlo hhi
  have hr : region s.cfg a = .bank := region_bank hinv.1 hlo hhi
  obtain ⟨b, hb⟩ := s.cfg.imageByte_eq_some (State.bankIndex_lt_imageSize hinv hr)
  have hread : s.returningImage (s.bankIndex a) = .next { s with result := some b } := State.returningImage_of_some hb
  exact ⟨decode_busReadWord a, b, hb, (exec_busReadBank_of_bank hr).trans hread, (exec_busRead_of_bank hr).trans hread⟩

/-! ## BANK_SELECT -/

/-- Settles O27: BANK_SELECT runs `exec_bankSelect_eq` in every state, and `BANK_MASK` is the number of whole slices of the image
after `BASE_OFFSET`, less one. -/
theorem bankSelectStoresTheMaskedIndex : Obligations.BankSelectStoresTheMaskedIndex := by
  unfold Obligations.BankSelectStoresTheMaskedIndex
  exact fun s d => ⟨decode_bankSelectWord d, exec_bankSelect_eq d s⟩

end Sys2Proof.Machine
end

section
/-! PROOFS. Protected RAM: a read returns the stored byte, and a write stores its byte unless the sampled protection inputs forbid
it (41_protected_ram.md rules R150 and R151). -/

namespace Sys2Proof.Machine

theorem decode_busWriteWord (a : Addr) (d : Byte) : decode (txnWord 0x1 a d) = .decoded (.busWrite a d) := by
  simp [decode]

/-! ## Reads of the RAM region -/

/-- BUS_READ of an address in the `RAM` region is the read of the RAM (44_bus_router.md rule R221). -/
theorem exec_busRead_of_ram {s : State} {a : Addr} (hr : region s.cfg a = .ram) : exec (.busRead a) s = readRam a s := by
  change execBusRead a s = _
  simp only [execBusRead, hr]

theorem exec_busReadRam_of_ram {s : State} {a : Addr} (hr : region s.cfg a = .ram) :
    exec (.busReadRam a) s = readRam a s := inRegion_of_eq _ hr

/-- Settles O17: both forms of the read are `readRam`, which asks no protection input and only sets the result. -/
theorem ramReadReturnsTheStoredByte : Obligations.RamReadReturnsTheStoredByte := by
  unfold Obligations.RamReadReturnsTheStoredByte
  intro s a ha
  have hr : region s.cfg a = .ram := region_ram ha
  have hread : readRam a s = .next { s with result := some (s.ramByte a.toNat) } := rfl
  exact ⟨decode_busReadWord a, (exec_busReadRam_of_ram hr).trans hread, (exec_busRead_of_ram hr).trans hread⟩

/-! ## Writes of the RAM region -/

/-- BUS_WRITE of an address in the `RAM` region is the write of the RAM (44_bus_router.md rule R222). -/
theorem exec_busWrite_of_ram {s : State} {a : Addr} (d : Byte) (hr : region s.cfg a = .ram) :
    exec (.busWrite a d) s = writeRam a d s := by
  change execBusWrite a d s = _
  simp only [execBusWrite, hr]

theorem exec_busWriteRam_of_ram {s : State} {a : Addr} (d : Byte) (hr : region s.cfg a = .ram) :
    exec (.busWriteRam a d) s = writeRam a d s := inRegion_of_eq _ hr

/-- The first case of R151: protection is inactive, or the offset lacks a bit of the mask. -/
theorem isProtected_eq_false {active : Bool} {mask o : Addr} :
    isProtected active mask o = false ↔ active = false ∨ o &&& mask ≠ mask := by
  rw [← Bool.not_eq_true, isProtected_eq_true, not_and_or, Bool.not_eq_true]

/-- Settles O18: both forms of the write are `writeRam`, and the two clauses are its two outcomes: the state after sampling with
the byte stored, where the laws of `storeRam` say what each offset reads, and the state after sampling with the diagnostic. -/
theorem ramWriteStoresUnlessProtected : Obligations.RamWriteStoresUnlessProtected := by
  unfold Obligations.RamWriteStoresUnlessProtected
  intro s a d i ha hi
  have hr : region s.cfg a = .ram := region_ram ha
  have hexec : exec i s = writeRam a d s := by
    rcases hi with rfl | rfl
    · exact exec_busWrite_of_ram d hr
    · exact exec_busWriteRam_of_ram d hr
  refine ⟨decode_busWriteWord a d, fun hfree => ?_, fun hactive hmask => ?_⟩
  · refine ⟨_, hexec.trans (writeRam_of_unprotected d (isProtected_eq_false.mpr hfree)), ?_, fun o ho => ?_, rfl⟩
    · simp
    · simp [State.storeRam_ramByte_ne _ _ ho]
  · exact hexec.trans (writeRam_of_protected d (isProtected_eq_true.mpr ⟨hactive, hmask⟩))

end Sys2Proof.Machine
end

section
/-! PROOFS. The sound bridge: the reads of the primary coprocessor and the data write, by the sound case (43_sound_bridge.md rules
R191, R193 and R194). -/

namespace Sys2Proof.Machine

/-! ## The words -/

theorem decode_sndCtrlReadWord : decode (txnWord 0x7 0 0) = .decoded .sndCtrlRead := by
  simp [decode, withNoOperand]

theorem decode_sndDataReadWord : decode (txnWord 0x9 0 0) = .decoded .sndDataRead := by
  simp [decode, withNoOperand]

theorem decode_sndDataWriteWord (b : Byte) : decode (txnWord 0xA 0 b) = .decoded (.sndDataWrite b) := by
  simp [decode, withDataOnly]

/-! ## The sound case (R190) -/

theorem soundCase_of_primary {c : Config} (hp : c.soundPresent = true) (hv : c.soundVariant = .primary) :
    c.soundCase = .primary := by
  simp [Config.soundCase, hp, hv]

theorem soundCase_of_legacy {c : Config} (hp : c.soundPresent = true) (hv : c.soundVariant = .legacy) :
    c.soundCase = .legacy := by
  simp [Config.soundCase, hp, hv]

theorem soundCase_of_absent {c : Config} (hp : c.soundPresent = false) : c.soundCase = .absent := by
  simp [Config.soundCase, hp]

/-- Cases L and N together: what is left when the pair does not select the primary coprocessor. -/
theorem soundCase_ne_primary {c : Config} (h : c.soundPresent = false ∨ c.soundVariant = .legacy) :
    c.soundCase ≠ .primary := by
  cases hp : c.soundPresent with
  | false => simp [soundCase_of_absent hp]
  | true => simp [soundCase_of_legacy hp (h.resolve_left (by simp [hp]))]

/-! ## The queries of the primary coprocessor (00_scope.md rule R14)

A query takes the first listed answer, and uses a free value where none is listed. -/

theorem State.answerPriCtrlRead_of_cons {s : State} {v : Byte} {vs : List Byte} (h : s.answers.priCtrlRead = v :: vs) :
    s.answerPriCtrlRead = v := by
  simp [State.answerPriCtrlRead, h]

theorem State.answerPriCtrlRead_of_nil {s : State} (h : s.answers.priCtrlRead = []) :
    s.answerPriCtrlRead = Config.freeValue 8 s.drawn := by
  simp [State.answerPriCtrlRead, h]

theorem State.afterPriCtrlRead_of_cons {s : State} {v : Byte} {vs : List Byte} (h : s.answers.priCtrlRead = v :: vs) :
    s.afterPriCtrlRead = { s with answers := { s.answers with priCtrlRead := vs } } := by
  simp [State.afterPriCtrlRead, drawnAfter, h]

theorem State.afterPriCtrlRead_of_nil {s : State} (h : s.answers.priCtrlRead = []) :
    s.afterPriCtrlRead = { s with drawn := s.drawn + 1 } := by
  calc s.afterPriCtrlRead
      = { s with answers := { s.answers with priCtrlRead := [] }, drawn := s.drawn + 1 } := by
        simp [State.afterPriCtrlRead, drawnAfter, h]
    _ = { s with drawn := s.drawn + 1 } := by rw [← h]

theorem State.answerPriDataRead_of_cons {s : State} {v : Byte} {vs : List Byte} (h : s.answers.priDataRead = v :: vs) :
    s.answerPriDataRead = v := by
  simp [State.answerPriDataRead, h]

theorem State.answerPriDataRead_of_nil {s : State} (h : s.answers.priDataRead = []) :
    s.answerPriDataRead = Config.freeValue 8 s.drawn := by
  simp [State.answerPriDataRead, h]

theorem State.afterPriDataRead_of_cons {s : State} {v : Byte} {vs : List Byte} (h : s.answers.priDataRead = v :: vs) :
    s.afterPriDataRead = { s with answers := { s.answers with priDataRead := vs } } := by
  simp [State.afterPriDataRead, drawnAfter, h]

theorem State.afterPriDataRead_of_nil {s : State} (h : s.answers.priDataRead = []) :
    s.afterPriDataRead = { s with drawn := s.drawn + 1 } := by
  calc s.afterPriDataRead
      = { s with answers := { s.answers with priDataRead := [] }, drawn := s.drawn + 1 } := by
        simp [State.afterPriDataRead, drawnAfter, h]
    _ = { s with drawn := s.drawn + 1 } := by rw [← h]

/-! ## SND_CTRL_READ -/

theorem exec_sndCtrlRead_of_primary {s : State} (hc : s.cfg.soundCase = .primary) :
    exec .sndCtrlRead s =
      (s.emit .priCtrlRead).afterPriCtrlRead.returning (s.emit .priCtrlRead).answerPriCtrlRead := by
  change execSndCtrlRead s = _
  simp only [execSndCtrlRead, hc]

theorem exec_sndCtrlRead_of_not_primary {s : State} (hc : s.cfg.soundCase ≠ .primary) :
    exec .sndCtrlRead s = s.returning 0 := by
  change execSndCtrlRead s = _
  unfold execSndCtrlRead
  split
  next hp => exact absurd hp hc
  next => rfl
  next => rfl

/-- Settles O39: in case P the read is emitted and then asks the coprocessor, whose answer is listed or free, and in the other two
cases it returns 0. -/
theorem soundCtrlReadByCase : Obligations.SoundCtrlReadByCase := by
  unfold Obligations.SoundCtrlReadByCase
  refine ⟨decode_sndCtrlReadWord, fun s => ⟨fun hp hv => ⟨fun v vs hans => ?_, fun hans => ?_⟩, fun h => ?_⟩⟩
  · have hemit : (s.emit .priCtrlRead).answers.priCtrlRead = v :: vs := hans
    rw [exec_sndCtrlRead_of_primary (soundCase_of_primary hp hv), State.answerPriCtrlRead_of_cons hemit,
      State.afterPriCtrlRead_of_cons hemit]
    rfl
  · have hemit : (s.emit .priCtrlRead).answers.priCtrlRead = [] := hans
    rw [exec_sndCtrlRead_of_primary (soundCase_of_primary hp hv), State.answerPriCtrlRead_of_nil hemit,
      State.afterPriCtrlRead_of_nil hemit]
    rfl
  · exact exec_sndCtrlRead_of_not_primary (soundCase_ne_primary h)

/-! ## SND_DATA_READ -/

theorem exec_sndDataRead_of_primary {s : State} (hc : s.cfg.soundCase = .primary) :
    exec .sndDataRead s =
      (s.emit .priDataRead).afterPriDataRead.returning (s.emit .priDataRead).answerPriDataRead := by
  change execSndDataRead s = _
  simp only [execSndDataRead, hc]

theorem exec_sndDataRead_of_not_primary {s : State} (hc : s.cfg.soundCase ≠ .primary) :
    exec .sndDataRead s = s.returning 0 := by
  change execSndDataRead s = _
  unfold execSndDataRead
  split
  next hp => exact absurd hp hc
  next => rfl
  next => rfl

/-- Settles O41: in case P the read is emitted and then asks the coprocessor, whose answer is listed or free, and in the other two
cases it returns 0. -/
theorem soundDataReadByCase : Obligations.SoundDataReadByCase := by
  unfold Obligations.SoundDataReadByCase
  refine ⟨decode_sndDataReadWord, fun s => ⟨fun hp hv => ⟨fun v vs hans => ?_, fun hans => ?_⟩, fun h => ?_⟩⟩
  · have hemit : (s.emit .priDataRead).answers.priDataRead = v :: vs := hans
    rw [exec_sndDataRead_of_primary (soundCase_of_primary hp hv), State.answerPriDataRead_of_cons hemit,
      State.afterPriDataRead_of_cons hemit]
    rfl
  · have hemit : (s.emit .priDataRead).answers.priDataRead = [] := hans
    rw [exec_sndDataRead_of_primary (soundCase_of_primary hp hv), State.answerPriDataRead_of_nil hemit,
      State.afterPriDataRead_of_nil hemit]
    rfl
  · exact exec_sndDataRead_of_not_primary (soundCase_ne_primary h)

/-! ## SND_DATA_WRITE -/

theorem exec_sndDataWrite_of_primary {s : State} (b : Byte) (hc : s.cfg.soundCase = .primary) :
    exec (.sndDataWrite b) s = (s.emit (.priDataWrite b)).done := by
  change execSndDataWrite b s = _
  simp only [execSndDataWrite, hc]

theorem exec_sndDataWrite_of_legacy {s : State} (b : Byte) (hc : s.cfg.soundCase = .legacy) :
    exec (.sndDataWrite b) s = (s.emit (.legData b)).done := by
  change execSndDataWrite b s = _
  simp only [execSndDataWrite, hc]

theorem exec_sndDataWrite_of_absent {s : State} (b : Byte) (hc : s.cfg.soundCase = .absent) :
    exec (.sndDataWrite b) s = s.done := by
  change execSndDataWrite b s = _
  simp only [execSndDataWrite, hc]

/-- Settles O42: one emission in case P, the latch alone in case L, and none in case N. -/
theorem soundDataWriteByCase : Obligations.SoundDataWriteByCase := by
  unfold Obligations.SoundDataWriteByCase
  refine fun s b => ⟨decode_sndDataWriteWord b, ?_⟩
  cases hp : s.cfg.soundPresent with
  | false =>
    rw [exec_sndDataWrite_of_absent b (soundCase_of_absent hp)]
    simp [State.done, State.setResult]
  | true =>
    cases hv : s.cfg.soundVariant with
    | primary => exact exec_sndDataWrite_of_primary b (soundCase_of_primary hp hv)
    | legacy => exact exec_sndDataWrite_of_legacy b (soundCase_of_legacy hp hv)

end Sys2Proof.Machine
end

section
/-! PROOFS. The bus router: the dispatch of CPU reads and writes by region, the free RAM that the router serves itself, and the two
interrupt-clear callbacks (44_bus_router.md rules R221 to R224, R229 and R230). -/

namespace Sys2Proof.Machine

/-! ## Dispatch -/

/-- A region sub-row whose address lies in its region runs as the transaction that its word decodes to (30_encoding.md rule R104;
44_bus_router.md rules R221 and R222). -/
theorem exec_subRow_eq_transaction {i : Instr} {r : Region} {a : Addr} {s : State} (hi : i.subRow = some (r, a))
    (hr : region s.cfg a = r) : exec i s = exec i.transaction s := by
  cases i <;> cases hi
  case busReadRam | busReadFree | busReadIo | busReadBank | busReadRom =>
    refine (inRegion_of_eq _ hr).trans ?_
    change _ = execBusRead a s
    simp only [execBusRead, hr]
  case busWriteRam d | busWriteFree d | busWriteIo d | busWriteBank d | busWriteRom d =>
    refine (inRegion_of_eq _ hr).trans ?_
    change _ = execBusWrite a d s
    simp only [execBusWrite, hr]

theorem State.returningImage_returns_byte {s : State} {i : Nat} (h : i < s.cfg.imageSize) :
    ∃ t b, s.returningImage i = .next t ∧ t.result = some b := by
  obtain ⟨b, hb⟩ := s.cfg.imageByte_eq_some h
  exact ⟨_, b, State.returningImage_of_some hb, rfl⟩

/-- In a good state BUS_READ returns a byte at every address: only the reads of the image could fail, and the invariant keeps
them inside it (44_bus_router.md rule R221). -/
theorem exec_busRead_returns_byte {s : State} (a : Addr) (h : s.Inv) :
    ∃ t b, exec (.busRead a) s = .next t ∧ t.result = some b := by
  change ∃ t b, execBusRead a s = .next t ∧ t.result = some b
  unfold execBusRead
  split
  next => exact ⟨_, _, rfl, rfl⟩
  next => exact ⟨_, _, rfl, rfl⟩
  next => exact ⟨_, _, rfl, rfl⟩
  next hr => exact State.returningImage_returns_byte (State.bankIndex_lt_imageSize h hr)
  next hr => exact State.returningImage_returns_byte (State.romIndex_lt_imageSize h.1 hr)

/-- BUS_WRITE ends in every state, at every address, and returns nothing (44_bus_router.md rule R222). -/
theorem exec_busWrite_returns_none (a : Addr) (d : Byte) (s : State) :
    ∃ t, exec (.busWrite a d) s = .next t ∧ t.result = none := by
  change ∃ t, execBusWrite a d s = .next t ∧ t.result = none
  unfold execBusWrite
  split
  next => exact ⟨_, writeRam_eq a d s, rfl⟩
  next => exact ⟨_, rfl, rfl⟩
  next => exact ⟨_, rfl, rfl⟩
  next => exact ⟨_, rfl, rfl⟩
  next => exact ⟨_, rfl, rfl⟩

/-- Settles O14: by region, BUS_READ is its sub-row, and the invariant keeps every read of the image inside it. -/
theorem busReadDispatchesByRegion : Obligations.BusReadDispatchesByRegion := by
  unfold Obligations.BusReadDispatchesByRegion
  refine fun s a => ⟨decode_busReadWord a, ?_, exec_busRead_returns_byte a⟩
  cases hr : region s.cfg a with
  | ram => exact (exec_subRow_eq_transaction (i := .busReadRam a) rfl hr).symm
  | free => exact (exec_subRow_eq_transaction (i := .busReadFree a) rfl hr).symm
  | io => exact (exec_subRow_eq_transaction (i := .busReadIo a) rfl hr).symm
  | bank => exact (exec_subRow_eq_transaction (i := .busReadBank a) rfl hr).symm
  | rom => exact (exec_subRow_eq_transaction (i := .busReadRom a) rfl hr).symm

/-- Settles O15: by region, BUS_WRITE is its sub-row, and no write can fail. -/
theorem busWriteDispatchesByRegion : Obligations.BusWriteDispatchesByRegion := by
  unfold Obligations.BusWriteDispatchesByRegion
  refine fun s a d => ⟨decode_busWriteWord a d, ?_, exec_busWrite_returns_none a d s⟩
  cases hr : region s.cfg a with
  | ram => exact (exec_subRow_eq_transaction (i := .busWriteRam a d) rfl hr).symm
  | free => exact (exec_subRow_eq_transaction (i := .busWriteFree a d) rfl hr).symm
  | io => exact (exec_subRow_eq_transaction (i := .busWriteIo a d) rfl hr).symm
  | bank => exact (exec_subRow_eq_transaction (i := .busWriteBank a d) rfl hr).symm
  | rom => exact (exec_subRow_eq_transaction (i := .busWriteRom a d) rfl hr).symm

/-! ## Free RAM -/

theorem exec_busReadFree_of_free {s : State} {a : Addr} (hr : region s.cfg a = .free) :
    exec (.busReadFree a) s = readFree a s := inRegion_of_eq _ hr

theorem exec_busWriteFree_of_free {s : State} {a : Addr} (d : Byte) (hr : region s.cfg a = .free) :
    exec (.busWriteFree a d) s = writeFree a d s := inRegion_of_eq _ hr

/-- Settles O20: both forms of the read are `readFree`, which only sets the result, and an unlisted byte of `FREE` reads the free
value of the draw in force. -/
theorem freeReadReturnsTheStoredByte : Obligations.FreeReadReturnsTheStoredByte := by
  unfold Obligations.FreeReadReturnsTheStoredByte
  intro s a hlo hhi
  have hr : region s.cfg a = .free := region_free hlo hhi
  have hsub : exec (.busReadFree a) s = exec (.busRead a) s := exec_subRow_eq_transaction rfl hr
  have hread : exec (.busReadFree a) s = .next { s with result := some (s.freeByte (a.toNat - s.cfg.freeBase)) } :=
    exec_busReadFree_of_free hr
  exact ⟨decode_busReadWord a, hread, hsub.symm.trans hread, State.freeByte_of_unlisted⟩

/-- Settles O21: both forms of the write are `writeFree`, which samples no protection input, and the laws of `storeFree` say what
each offset reads. -/
theorem freeWriteStoresUnprotected : Obligations.FreeWriteStoresUnprotected := by
  unfold Obligations.FreeWriteStoresUnprotected
  intro s a d i hlo hhi hi
  have hr : region s.cfg a = .free := region_free hlo hhi
  have hsub : exec (.busWriteFree a d) s = exec (.busWrite a d) s := exec_subRow_eq_transaction rfl hr
  have hexec : exec i s = writeFree a d s := by
    rcases hi with rfl | rfl
    · exact hsub.symm.trans (exec_busWriteFree_of_free d hr)
    · exact exec_busWriteFree_of_free d hr
  refine ⟨decode_busWriteWord a d, _, hexec, ?_, fun o ho => ?_, rfl⟩
  · simp
  · simp [State.storeFree_freeByte_ne _ _ ho]

/-! ## Interrupt-clear callbacks -/

theorem decode_irqClearWord : decode (txnWord 0x3 0 0) = .decoded .irqClear := by
  simp [decode, withNoOperand]

theorem decode_firqClearWord : decode (txnWord 0x4 0 0) = .decoded .firqClear := by
  simp [decode, withNoOperand]

theorem exec_irqClear_eq (s : State) : exec .irqClear s = .next ((s.setIrqLine false).setResult none) := rfl

theorem exec_firqClear_eq (s : State) : exec .firqClear s = .next ((s.setFirqLine false).setResult none) := rfl

/-- Settles O46: IRQ_CLEAR drives the standard line low and ends, in every state. -/
theorem irqClearDeassertsTheLine : Obligations.IrqClearDeassertsTheLine := by
  unfold Obligations.IrqClearDeassertsTheLine
  exact ⟨decode_irqClearWord, exec_irqClear_eq⟩

/-- Settles O47: FIRQ_CLEAR drives the fast line low and ends, in every state. -/
theorem firqClearDeassertsTheLine : Obligations.FirqClearDeassertsTheLine := by
  unfold Obligations.FirqClearDeassertsTheLine
  exact ⟨decode_firqClearWord, exec_firqClear_eq⟩

end Sys2Proof.Machine
end

section
/-! PROOFS. Everything a transaction that ends in a next state can do, said once: an instruction's effects, from which the frames,
the invariants and the independence statements below are read off. -/

namespace Sys2Proof.Machine

/-! ## The effects -/

/-- The events that a sound write puts on the trace, by the sound case (43_sound_bridge.md rules R192, R194 and R195). -/
def soundEvents : SoundCase → Instr → List Event
  | .primary, .sndCtrlWrite b => [.priCtrlWrite b]
  | .primary, .sndDataWrite b => [.priDataWrite b]
  | .legacy, .sndCtrlWrite b => [.legData b, .legTrigger true]
  | .legacy, .sndDataWrite b => [.legData b]
  | .legacy, .sndStrobeWrite b => [.legData b, .legTrigger true, .legTrigger false]
  | _, _ => []

/-- Append events to the trace. -/
def State.emitAll (s : State) (es : List Event) : State := { s with trace := s.trace ++ es }

/-- The state after FRAME_TICK (42_timers.md rule R170): the digits are the permuted answers to the queries, which stand on the trace
with the clear, and the frame timer has fired. -/
def State.afterFrameTick (s : State) : State :=
  { s with
    digitOut := (List.range s.cfg.digitQueries.length).map fun k => perm (s.segmentAnswer k)
    trace := s.trace ++ s.cfg.digitQueries.map .ctlQuerySegment ++ [.ctlClearSegments]
    frameCount := s.frameCount + 1
    nextFrame := s.nextFrame + framePeriod
    answers := { s.answers with segment := s.answers.segment.drop s.cfg.digitQueries.length }
    drawn := s.drawn + (s.cfg.digitQueries.length - s.answers.segment.length)
    result := none }

/-- What instruction `i` does to state `s` when it ends in a next state: one constructor per effect, a region sub-row having the
effects of its transaction. -/
inductive Effect (s : State) : Instr → State → Prop
  | read {i : Instr} {a : Addr} {b : Byte} (hi : i.transaction = .busRead a) (hio : region s.cfg a ≠ .io)
      (hb : s.byteAt a = some b) : Effect s i (s.setResult (some b))
  | readIo {i : Instr} {a : Addr} (hi : i.transaction = .busRead a) (hio : region s.cfg a = .io) :
      Effect s i ((s.emit (.ctlRead (a.toNat - s.cfg.ioBase))).afterCtlRead.setResult (some s.answerCtlRead))
  | storeRam {i : Instr} {a : Addr} {d : Byte} (hi : i.transaction = .busWrite a d) (hr : region s.cfg a = .ram)
      (hp : isProtected s.answerProtActive s.afterProtActive.answerProtMask a = false) :
      Effect s i ((s.sampled.storeRam a.toNat d).setResult none)
  | protectedRam {i : Instr} {a : Addr} {d : Byte} (hi : i.transaction = .busWrite a d) (hr : region s.cfg a = .ram)
      (hp : isProtected s.answerProtActive s.afterProtActive.answerProtMask a = true) :
      Effect s i ((s.sampled.emit (.diagProtViolation a s.afterProtActive.answerProtMask)).setResult none)
  | storeFree {i : Instr} {a : Addr} {d : Byte} (hi : i.transaction = .busWrite a d) (hr : region s.cfg a = .free) :
      Effect s i ((s.storeFree (a.toNat - s.cfg.freeBase) d).setResult none)
  | writeIo {i : Instr} {a : Addr} {d : Byte} (hi : i.transaction = .busWrite a d) (hr : region s.cfg a = .io) :
      Effect s i ((s.emit (.ctlWrite (a.toNat - s.cfg.ioBase) d)).setResult none)
  | writeImage {i : Instr} {a : Addr} {d : Byte} (hi : i.transaction = .busWrite a d)
      (hr : region s.cfg a = .bank ∨ region s.cfg a = .rom) : Effect s i (s.setResult none)
  | bankSelect (d : Byte) : Effect s (.bankSelect d) ((s.setBank (maskedBank s.cfg d)).setResult none)
  | irqClear : Effect s .irqClear ((s.setIrqLine false).setResult none)
  | firqClear : Effect s .firqClear ((s.setFirqLine false).setResult none)
  | frameTick : Effect s .frameTick s.afterFrameTick
  | irqTick : Effect s .irqTick (((s.setIrqLine true).countIrq).setResult none)
  | sndCtrlRead (hc : s.cfg.soundCase = .primary) :
      Effect s .sndCtrlRead ((s.emit .priCtrlRead).afterPriCtrlRead.setResult (some s.answerPriCtrlRead))
  | sndDataRead (hc : s.cfg.soundCase = .primary) :
      Effect s .sndDataRead ((s.emit .priDataRead).afterPriDataRead.setResult (some s.answerPriDataRead))
  | sndReadZero {i : Instr} (hi : i = .sndCtrlRead ∨ i = .sndDataRead) (hc : s.cfg.soundCase ≠ .primary) :
      Effect s i (s.setResult (some 0))
  | sndWrite {i : Instr} {b : Byte} (hi : i = .sndCtrlWrite b ∨ i = .sndDataWrite b ∨ i = .sndStrobeWrite b) :
      Effect s i ((s.emitAll (soundEvents s.cfg.soundCase i)).setResult none)
  | sndReply (hc : s.cfg.soundCase = .primary) : Effect s .sndReply ((s.setFirqLine true).setResult none)
  | reset : Effect s .reset (s.afterReset.setResult none)

/-! ## Bus reads and writes -/

/-- A read of the image has the effect of a read if the byte shown at the address is that of the image. -/
theorem effect_of_returningImage {s t : State} {i : Instr} {a : Addr} {n : Nat} (hi : i.transaction = .busRead a)
    (hio : region s.cfg a ≠ .io) (hb : s.byteAt a = s.cfg.imageByte n) (h : s.returningImage n = .next t) :
    Effect s i t := by
  obtain ⟨b, hn, rfl⟩ := State.returningImage_next_iff.mp h
  exact .read hi hio (hb.trans hn)

theorem effect_of_execBusRead {s t : State} {i : Instr} {a : Addr} (hi : i.transaction = .busRead a)
    (h : execBusRead a s = .next t) : Effect s i t := by
  unfold execBusRead at h
  split at h
  next hr => cases h; exact .read hi (by simp [hr]) (by simp [State.byteAt, hr])
  next hr => cases h; exact .read hi (by simp [hr]) (by simp [State.byteAt, hr])
  next hr => cases h; exact .readIo hi hr
  next hr => exact effect_of_returningImage hi (by simp [hr]) (by simp [State.byteAt, hr]) h
  next hr => exact effect_of_returningImage hi (by simp [hr]) (by simp [State.byteAt, hr]) h

theorem effect_of_execBusWrite {s t : State} {i : Instr} {a : Addr} {d : Byte} (hi : i.transaction = .busWrite a d)
    (h : execBusWrite a d s = .next t) : Effect s i t := by
  unfold execBusWrite at h
  split at h
  next hr =>
    cases hp : isProtected s.answerProtActive s.afterProtActive.answerProtMask a with
    | true => rw [writeRam_of_protected d hp] at h; cases h; exact .protectedRam hi hr hp
    | false => rw [writeRam_of_unprotected d hp] at h; cases h; exact .storeRam hi hr hp
  next hr => cases h; exact .storeFree hi hr
  next hr => cases h; exact .writeIo hi hr
  next hr => cases h; exact .writeImage hi (.inl hr)
  next hr => cases h; exact .writeImage hi (.inr hr)

/-- A sub-row that is not refused has its address in its region. -/
theorem region_of_exec_subRow {i : Instr} {r : Region} {a : Addr} {s t : State} (hi : i.subRow = some (r, a))
    (h : exec i s = .next t) : region s.cfg a = r := by
  cases i <;> cases hi <;> exact (inRegion_next_iff.mp h).1

theorem exec_transaction_of_subRow {i : Instr} {r : Region} {a : Addr} {s t : State} (hi : i.subRow = some (r, a))
    (h : exec i s = .next t) : exec i.transaction s = .next t :=
  exec_subRow_eq_transaction hi (region_of_exec_subRow hi h) ▸ h

/-! ## The sound writes -/

theorem exec_sndCtrlWrite_eq (b : Byte) (s : State) :
    exec (.sndCtrlWrite b) s = .next ((s.emitAll (soundEvents s.cfg.soundCase (.sndCtrlWrite b))).setResult none) := by
  change execSndCtrlWrite b s = _
  cases hc : s.cfg.soundCase <;> simp [execSndCtrlWrite, hc, soundEvents, State.emitAll, State.emit]

theorem exec_sndDataWrite_eq (b : Byte) (s : State) :
    exec (.sndDataWrite b) s = .next ((s.emitAll (soundEvents s.cfg.soundCase (.sndDataWrite b))).setResult none) := by
  change execSndDataWrite b s = _
  cases hc : s.cfg.soundCase <;> simp [execSndDataWrite, hc, soundEvents, State.emitAll, State.emit]

theorem exec_sndStrobeWrite_eq (b : Byte) (s : State) :
    exec (.sndStrobeWrite b) s = .next ((s.emitAll (soundEvents s.cfg.soundCase (.sndStrobeWrite b))).setResult none) := by
  change execSndStrobeWrite b s = _
  cases hc : s.cfg.soundCase <;> simp [execSndStrobeWrite, hc, soundEvents, State.emitAll, State.emit]

/-! ## All instructions -/

theorem effect_of_sndCtrlRead {s t : State} (h : exec .sndCtrlRead s = .next t) : Effect s .sndCtrlRead t := by
  by_cases hc : s.cfg.soundCase = .primary
  · rw [exec_sndCtrlRead_of_primary hc] at h; cases h; exact .sndCtrlRead hc
  · rw [exec_sndCtrlRead_of_not_primary hc] at h; cases h; exact .sndReadZero (.inl rfl) hc

theorem effect_of_sndDataRead {s t : State} (h : exec .sndDataRead s = .next t) : Effect s .sndDataRead t := by
  by_cases hc : s.cfg.soundCase = .primary
  · rw [exec_sndDataRead_of_primary hc] at h; cases h; exact .sndDataRead hc
  · rw [exec_sndDataRead_of_not_primary hc] at h; cases h; exact .sndReadZero (.inr rfl) hc

theorem exec_sndReply_of_primary {s : State} (hc : s.cfg.soundCase = .primary) :
    exec .sndReply s = .next ((s.setFirqLine true).setResult none) := by
  change execSndReply s = _
  simp only [execSndReply, hc, State.done_eq]

theorem exec_sndReply_of_not_primary {s : State} (hc : s.cfg.soundCase ≠ .primary) :
    exec .sndReply s = .refused .noReplySource := by
  change execSndReply s = _
  unfold execSndReply
  split
  next hp => exact absurd hp hc
  next => rfl
  next => rfl

theorem effect_of_sndReply {s t : State} (h : exec .sndReply s = .next t) : Effect s .sndReply t := by
  by_cases hc : s.cfg.soundCase = .primary
  · rw [exec_sndReply_of_primary hc] at h; cases h; exact .sndReply hc
  · rw [exec_sndReply_of_not_primary hc] at h; cases h

theorem exec_frameTick_eq (s : State) :
    exec .frameTick s = .next s.afterFrameTick := by
  refine (execFrameTick_eq s).trans ?_
  simp only [State.afterQueries, State.setDigitOut, State.emit, State.countFrame, State.setResult, State.afterFrameTick]

theorem exec_irqTick_eq (s : State) : exec .irqTick s = .next (((s.setIrqLine true).countIrq).setResult none) := rfl

/-- An instruction that ends in a next state had one of its effects. -/
theorem effect_of_exec {i : Instr} {s t : State} (h : exec i s = .next t) : Effect s i t := by
  cases i with
  | busRead a => exact effect_of_execBusRead rfl h
  | busReadRam a | busReadFree a | busReadIo a | busReadBank a | busReadRom a =>
    exact effect_of_execBusRead rfl (exec_transaction_of_subRow rfl h)
  | busWrite a d => exact effect_of_execBusWrite rfl h
  | busWriteRam a d | busWriteFree a d | busWriteIo a d | busWriteBank a d | busWriteRom a d =>
    exact effect_of_execBusWrite rfl (exec_transaction_of_subRow rfl h)
  | bankSelect d => cases h; exact .bankSelect d
  | irqClear => cases h; exact .irqClear
  | firqClear => cases h; exact .firqClear
  | frameTick => rw [exec_frameTick_eq] at h; cases h; exact .frameTick
  | irqTick => cases h; exact .irqTick
  | sndCtrlRead => exact effect_of_sndCtrlRead h
  | sndCtrlWrite b => rw [exec_sndCtrlWrite_eq] at h; cases h; exact .sndWrite (b := b) (by simp)
  | sndDataRead => exact effect_of_sndDataRead h
  | sndDataWrite b => rw [exec_sndDataWrite_eq] at h; cases h; exact .sndWrite (b := b) (by simp)
  | sndStrobeWrite b => rw [exec_sndStrobeWrite_eq] at h; cases h; exact .sndWrite (b := b) (by simp)
  | sndReply => exact effect_of_sndReply h
  | reset => cases h; exact .reset
  | reservedE rest => cases h
  | reservedF rest => cases h

end Sys2Proof.Machine
end

section
/-! PROOFS. Every step keeps the invariant of a good state, which every power-on state of a well-formed configuration has
(10_state.md sections 1, 2, 5 and 7). -/

namespace Sys2Proof.Machine

/-- The invariant of a state whose configuration is that of a good state. -/
theorem State.Inv.of_cfg {s t : State} (hs : s.Inv) (hcfg : t.cfg = s.cfg) (hbank : t.curBank &&& s.cfg.bankMask = t.curBank)
    (hram : Memory.wf (unlisted .ram) s.cfg.ramSize t.ram) (hfree : Memory.wf (unlisted .free) s.cfg.freeSize t.free)
    (hdig : t.digitOut.length = s.cfg.digitCount) (hframe : t.nextFrame % framePeriod = 0 ∧ 0 < t.nextFrame)
    (hirq : t.nextIrq % irqPeriod = 0 ∧ 0 < t.nextIrq) : t.Inv := by
  rw [← hcfg] at hbank hram hfree hdig
  exact ⟨hcfg ▸ hs.1, hbank, hram, hfree, hdig, hframe, hirq⟩

/-- The invariant speaks of seven fields only. -/
theorem State.Inv.congr {s t : State} (hs : s.Inv) (hcfg : t.cfg = s.cfg) (hbank : t.curBank = s.curBank)
    (hram : t.ram = s.ram) (hfree : t.free = s.free) (hdig : t.digitOut = s.digitOut) (hframe : t.nextFrame = s.nextFrame)
    (hirq : t.nextIrq = s.nextIrq) : t.Inv := by
  unfold State.Inv
  rw [hcfg, hbank, hram, hfree, hdig, hframe, hirq]
  exact hs

/-- One period later a timer's next firing is still a positive whole number of periods (42_timers.md rule R173). -/
theorem schedule_add_period {n p : Nat} (h : n % p = 0 ∧ 0 < n) : (n + p) % p = 0 ∧ 0 < n + p :=
  ⟨by rw [Nat.add_mod_right, h.1], Nat.add_pos_left h.2 p⟩

theorem State.Inv.setResult {s : State} (hs : s.Inv) (r : Option Byte) : (s.setResult r).Inv := hs

theorem State.Inv.emit {s : State} (hs : s.Inv) (e : Event) : (s.emit e).Inv := hs

theorem State.Inv.sampled {s : State} (hs : s.Inv) : s.sampled.Inv := hs.congr rfl rfl rfl rfl rfl rfl rfl

/-- A store inside `RAM` keeps the invariant (10_state.md rule R30). -/
theorem State.Inv.storeRam {s : State} (hs : s.Inv) {o : Nat} (d : Byte) (ho : o < s.cfg.ramSize) : (s.storeRam o d).Inv := by
  have ⟨_, hbank, hram, hfree, hdig, hframe, hirq⟩ := hs
  exact hs.of_cfg rfl hbank (Memory.wf_store d hram ho) hfree hdig hframe hirq

/-- A store inside `FREE` keeps the invariant (R31). -/
theorem State.Inv.storeFree {s : State} (hs : s.Inv) {o : Nat} (d : Byte) (ho : o < s.cfg.freeSize) :
    (s.storeFree o d).Inv := by
  have ⟨_, hbank, hram, hfree, hdig, hframe, hirq⟩ := hs
  exact hs.of_cfg rfl hbank hram (Memory.wf_store d hfree ho) hdig hframe hirq

theorem framePeriod_pos : 0 < framePeriod := by decide

theorem irqPeriod_pos : 0 < irqPeriod := by decide

/-- At power-on a timer's next firing is one period away (70_reset_and_hazards.md rule R280). -/
theorem schedule_initial {p : Nat} (h : 0 < p) : p % p = 0 ∧ 0 < p := ⟨Nat.mod_self p, h⟩

theorem drawnDigits_length (k n : Nat) : (drawnDigits k n).length = n := by simp [drawnDigits]

/-- Every effect keeps the invariant: the stores lie inside their regions, BANK_SELECT masks, and a tick moves its timer one
period on. -/
theorem Effect.inv {i : Instr} {s t : State} (h : Effect s i t) (hs : s.Inv) : t.Inv := by
  have ⟨hcfg, hbank, hram, hfree, hdig, hframe, hirq⟩ := hs
  cases h with
  | read | readIo | writeIo | writeImage | irqClear | firqClear | sndCtrlRead | sndDataRead | sndReadZero
  | sndWrite | sndReply => exact hs.congr rfl rfl rfl rfl rfl rfl rfl
  | protectedRam => exact (hs.sampled.emit _).setResult none
  | @storeRam _ a d hi hr hp =>
    have ha := region_bounds s.cfg a
    simp only [hr] at ha
    exact (hs.sampled.storeRam d ha).setResult none
  | @storeFree _ a d hi hr =>
    have ha := region_bounds s.cfg a
    simp only [hr] at ha
    have hsize : a.toNat - s.cfg.freeBase < s.cfg.freeSize := by unfold Config.freeSize; omega
    exact (hs.storeFree d hsize).setResult none
  | bankSelect d => exact hs.of_cfg rfl (maskedBank_and_bankMask _ _) hram hfree hdig hframe hirq
  | frameTick =>
    have hlen : s.cfg.digitQueries.length = s.cfg.digitCount := Config.digitQueries_length hcfg
    exact hs.of_cfg rfl hbank hram hfree (by simpa [State.afterFrameTick] using hlen)
      (schedule_add_period hframe) hirq
  | irqTick => exact hs.of_cfg rfl hbank hram hfree hdig hframe (schedule_add_period hirq)
  | reset =>
    exact hs.of_cfg rfl (Nat.zero_and _) (Memory.wf_nil _ _) (Memory.wf_nil _ _) (drawnDigits_length _ _) hframe hirq

/-- Settles O54: the timeline moves no field that the invariant speaks of, and the effect of the decoded transaction keeps it. -/
theorem stepKeepsTheInvariant : Obligations.StepKeepsTheInvariant := by
  unfold Obligations.StepKeepsTheInvariant
  intro s t hs h
  obtain ⟨-, i, -, hi⟩ := step_next_cases h
  exact (effect_of_exec hi).inv hs.nextEvent

/-- The power-on state has both memories empty, bank 0, one digit per position, and the first firings one period away
(70_reset_and_hazards.md rule R280). -/
theorem State.initial_inv {c : Config} (hc : c.wf = true) : (State.initial c).Inv :=
  ⟨hc, Nat.zero_and _, Memory.wf_nil _ _, Memory.wf_nil _ _, List.length_replicate,
    schedule_initial framePeriod_pos, schedule_initial irqPeriod_pos⟩

/-- Settles O53: REF is well formed, and the invariant holds at power-on under every well-formed configuration. -/
theorem powerOnIsAGoodState : Obligations.PowerOnIsAGoodState := by
  unfold Obligations.PowerOnIsAGoodState
  exact ⟨State.initial_inv (by decide), fun c hc => State.initial_inv hc⟩

end Sys2Proof.Machine
end

section
/-! PROOFS. The decoder and the encoder: each is the other's inverse on the fourteen transactions, and the decoder refuses exactly
the invalid words (30_encoding.md rules R101 to R106). -/

namespace Sys2Proof

open Machine

/-! ## The transaction of an instruction -/

theorem Instr.transaction_of_not_subRow {i : Instr} (h : i.subRow = none) : i.transaction = i := by
  cases i <;> cases h <;> rfl

theorem Instr.subRow_of_isTransaction {i : Instr} (h : i.isTransaction = true) : i.subRow = none := by
  cases i <;> cases h <;> rfl

/-- The sub-row of BUS_READ or BUS_WRITE that the address of the transaction lies in (R104). -/
def Instr.inRow (c : Config) : Instr → Instr
  | .busRead a =>
    match region c a with
    | .ram => .busReadRam a
    | .free => .busReadFree a
    | .io => .busReadIo a
    | .bank => .busReadBank a
    | .rom => .busReadRom a
  | .busWrite a d =>
    match region c a with
    | .ram => .busWriteRam a d
    | .free => .busWriteFree a d
    | .io => .busWriteIo a d
    | .bank => .busWriteBank a d
    | .rom => .busWriteRom a d
  | i => i

/-- The region guard of a well-formed instruction. -/
theorem Instr.region_of_wf {c : Config} {i : Instr} {r : Region} {a : Addr} (h : i.wf c = true)
    (hi : i.subRow = some (r, a)) : region c a = r := by
  simpa [Instr.wf, hi] using (Bool.and_eq_true_iff.mp h).2

/-- A sub-row is known from its transaction and the region of its address. -/
theorem Instr.inRow_transaction {c : Config} {i : Instr} {r : Region} {a : Addr} (hi : i.subRow = some (r, a))
    (hr : region c a = r) : i.transaction.inRow c = i := by
  cases i <;> cases hi <;> simp only [Instr.transaction, Instr.inRow, hr]

/-! ## Decoding an encoded instruction -/

theorem decode_sndCtrlWriteWord (d : Byte) : decode (txnWord 0x8 0 d) = .decoded (.sndCtrlWrite d) := by
  simp [decode, withDataOnly]

theorem decode_sndStrobeWriteWord (d : Byte) : decode (txnWord 0xB 0 d) = .decoded (.sndStrobeWrite d) := by
  simp [decode, withDataOnly]

/-- Every row of the opcode table but the reserved ones decodes to its transaction (R102, R104, R106). -/
theorem decode_encode {i : Instr} (h : i.notReserved = true) : decode (encode i) = .decoded i.transaction := by
  cases i with
  | busRead a | busReadRam a | busReadFree a | busReadIo a | busReadBank a | busReadRom a => exact decode_busReadWord a
  | busWrite a d | busWriteRam a d | busWriteFree a d | busWriteIo a d | busWriteBank a d | busWriteRom a d =>
    exact decode_busWriteWord a d
  | bankSelect d => exact decode_bankSelectWord d
  | irqClear | firqClear | frameTick | irqTick | sndCtrlRead | sndDataRead | sndReply | reset => decide
  | sndCtrlWrite d => exact decode_sndCtrlWriteWord d
  | sndDataWrite d => exact decode_sndDataWriteWord d
  | sndStrobeWrite d => exact decode_sndStrobeWriteWord d
  | reservedE rest => cases h
  | reservedF rest => cases h

theorem Instr.notReserved_of_wf {c : Config} {i : Instr} (h : i.wf c = true) : i.notReserved = true :=
  (Bool.and_eq_true_iff.mp h).1

/-- Settles O2: `decode_encode` for every row, and only a sub-row differs from its transaction. -/
theorem decodeOfEncodeIsTheTransaction : Obligations.DecodeOfEncodeIsTheTransaction := by
  unfold Obligations.DecodeOfEncodeIsTheTransaction
  exact fun c i h => ⟨decode_encode (Instr.notReserved_of_wf h),
    fun ht => Instr.transaction_of_not_subRow (Instr.subRow_of_isTransaction ht)⟩

/-- Well-formed instructions with one word have one transaction. -/
theorem transaction_eq_of_encode_eq {c : Config} {i j : Instr} (hi : i.wf c = true) (hj : j.wf c = true)
    (h : encode i = encode j) : i.transaction = j.transaction := by
  have hd : Verdict.decoded i.transaction = .decoded j.transaction := by
    rw [← decode_encode (Instr.notReserved_of_wf hi), ← decode_encode (Instr.notReserved_of_wf hj), h]
  exact Verdict.decoded.inj hd

/-- Settles O3: one word means one transaction; among the fourteen it is the instruction itself, and a sub-row is known from it
and the region of its address. -/
theorem encodeIsInjectiveAtEachTableLevel : Obligations.EncodeIsInjectiveAtEachTableLevel := by
  unfold Obligations.EncodeIsInjectiveAtEachTableLevel
  intro c i j hi hj hlevel h
  have ht := transaction_eq_of_encode_eq hi hj h
  cases hsi : i.subRow with
  | none =>
    have hsj : j.subRow = none := by simpa [hsi] using hlevel
    rwa [Instr.transaction_of_not_subRow hsi, Instr.transaction_of_not_subRow hsj] at ht
  | some x =>
    obtain ⟨y, hsj⟩ : ∃ y, j.subRow = some y := by simpa [hsi, Option.isSome_iff_exists] using hlevel.symm
    calc i = i.transaction.inRow c := (Instr.inRow_transaction hsi (Instr.region_of_wf hi hsi)).symm
      _ = j.transaction.inRow c := by rw [ht]
      _ = j := Instr.inRow_transaction hsj (Instr.region_of_wf hj hsj)

/-! ## The three operand checks (R105) -/

theorem withAddrOnly_eq_decoded {w : Word} {i j : Instr} :
    withAddrOnly w i = .decoded j ↔ dataField w = 0#8 ∧ i = j := by
  by_cases h : dataField w = 0#8 <;> simp [withAddrOnly, h]

theorem withDataOnly_eq_decoded {w : Word} {i j : Instr} :
    withDataOnly w i = .decoded j ↔ addrField w = 0#16 ∧ i = j := by
  by_cases h : addrField w = 0#16 <;> simp [withDataOnly, h]

theorem withNoOperand_eq_decoded {w : Word} {i j : Instr} :
    withNoOperand w i = .decoded j ↔ (addrField w = 0#16 ∧ dataField w = 0#8) ∧ i = j := by
  by_cases h : addrField w = 0#16 ∧ dataField w = 0#8 <;> simp [withNoOperand, h]

@[simp] theorem withAddrOnly_eq_reserved {w : Word} {i : Instr} :
    withAddrOnly w i = .reservedEncoding ↔ dataField w ≠ 0#8 := by
  by_cases h : dataField w = 0#8 <;> simp [withAddrOnly, h]

@[simp] theorem withDataOnly_eq_reserved {w : Word} {i : Instr} :
    withDataOnly w i = .reservedEncoding ↔ addrField w ≠ 0#16 := by
  by_cases h : addrField w = 0#16 <;> simp [withDataOnly, h]

@[simp] theorem withNoOperand_eq_reserved {w : Word} {i : Instr} :
    withNoOperand w i = .reservedEncoding ↔ addrField w ≠ 0#16 ∨ dataField w ≠ 0#8 := by
  by_cases ha : addrField w = 0#16 <;> by_cases hd : dataField w = 0#8 <;> simp [withNoOperand, ha, hd]

/-! ## Encoding a decoded word -/

theorem txnWord_of_fields {w : Word} {op : BitVec 4} {a : Addr} {d : Byte} (hr : rsvField w = 0)
    (ho : (opField w).toNat = op.toNat) (ha : addrField w = a) (hd : dataField w = d) : txnWord op a d = w := by
  rw [← BitVec.eq_of_toNat_eq ho, ← ha, ← hd, txnWord_fields w hr]

theorem encode_of_withDataOnly {w : Word} {i j : Instr} {op : BitVec 4} (h : withDataOnly w i = .decoded j)
    (hi : encode i = txnWord op 0 (dataField w)) (ht : i.isTransaction = true) (hr : rsvField w = 0)
    (ho : (opField w).toNat = op.toNat) : encode j = w ∧ j.isTransaction = true := by
  obtain ⟨ha, rfl⟩ := withDataOnly_eq_decoded.mp h
  exact ⟨hi.trans (txnWord_of_fields hr ho ha rfl), ht⟩

theorem encode_of_withNoOperand {w : Word} {i j : Instr} {op : BitVec 4} (h : withNoOperand w i = .decoded j)
    (hi : encode i = txnWord op 0 0) (ht : i.isTransaction = true) (hr : rsvField w = 0)
    (ho : (opField w).toNat = op.toNat) : encode j = w ∧ j.isTransaction = true := by
  obtain ⟨⟨ha, hd⟩, rfl⟩ := withNoOperand_eq_decoded.mp h
  exact ⟨hi.trans (txnWord_of_fields hr ho ha hd), ht⟩

/-- Settles O4: in each of the fourteen rows the fields that the row checks and the operands it reads make up the word. -/
theorem encodeOfDecodeIsTheWord : Obligations.EncodeOfDecodeIsTheWord := by
  unfold Obligations.EncodeOfDecodeIsTheWord
  intro w i h
  unfold decode at h
  split at h
  next hr =>
    split at h
    next ho =>
      obtain ⟨hd, rfl⟩ := withAddrOnly_eq_decoded.mp h
      exact ⟨txnWord_of_fields hr ho rfl hd, rfl⟩
    next ho => cases h; exact ⟨txnWord_of_fields hr ho rfl rfl, rfl⟩
    next ho => exact encode_of_withDataOnly h rfl rfl hr ho
    next ho => exact encode_of_withNoOperand h rfl rfl hr ho
    next ho => exact encode_of_withNoOperand h rfl rfl hr ho
    next ho => exact encode_of_withNoOperand h rfl rfl hr ho
    next ho => exact encode_of_withNoOperand h rfl rfl hr ho
    next ho => exact encode_of_withNoOperand h rfl rfl hr ho
    next ho => exact encode_of_withDataOnly h rfl rfl hr ho
    next ho => exact encode_of_withNoOperand h rfl rfl hr ho
    next ho => exact encode_of_withDataOnly h rfl rfl hr ho
    next ho => exact encode_of_withDataOnly h rfl rfl hr ho
    next ho => exact encode_of_withNoOperand h rfl rfl hr ho
    next ho => exact encode_of_withNoOperand h rfl rfl hr ho
    next => cases h
  next => cases h

/-! ## The invalid words -/

theorem op_eq_of_toNat {op : BitVec 4} {n : Nat} (h : op.toNat = n) : op = BitVec.ofNat 4 n := by simp [← h]

/-- The two operation codes that no row of the decoder has are reserved (R105). -/
theorem op_reserved {op : BitVec 4} (h : ∀ n < 14, op.toNat ≠ n) : op = 0xE#4 ∨ op = 0xF#4 := by
  have hlt := op.isLt
  have hge : ¬ op.toNat < 14 := fun hlt => h _ hlt rfl
  obtain h14 | h15 : op.toNat = 14 ∨ op.toNat = 15 := by omega
  · exact .inl (op_eq_of_toNat h14)
  · exact .inr (op_eq_of_toNat h15)

/-- Settles O5: by the operation code, the checks of its row are the clauses about `ADDR` and `DATA`. -/
theorem decoderRefusesExactlyTheInvalidWords : Obligations.DecoderRefusesExactlyTheInvalidWords := by
  unfold Obligations.DecoderRefusesExactlyTheInvalidWords
  intro w
  change decode w = .reservedEncoding ↔
    opField w = 0xE#4 ∨ opField w = 0xF#4 ∨ rsvField w ≠ 0#4 ∨
    (opField w ∉ [0x0#4, 0x1#4] ∧ addrField w ≠ 0#16) ∨
    (opField w ∈ [0x0#4, 0x3#4, 0x4#4, 0x5#4, 0x6#4, 0x7#4, 0x9#4, 0xC#4, 0xD#4] ∧ dataField w ≠ 0#8)
  unfold decode
  split
  next hr =>
    split
    iterate 14 next ho => simp [hr, op_eq_of_toNat ho]
    next =>
      have hop : opField w = 0xE#4 ∨ opField w = 0xF#4 := op_reserved fun n hn h => by
        interval_cases n <;> contradiction
      tauto
  next hr => simp [show rsvField w ≠ 0#4 from hr]

/-- Settles O1: the decoder computes the listed verdict for each of the twenty-one words. -/
theorem sampleWordsDecodeAsTheVectorsSay : Obligations.SampleWordsDecodeAsTheVectorsSay := by
  unfold Obligations.SampleWordsDecodeAsTheVectorsSay
  decide

/-! ## The reserved rows -/

theorem opField_append (op : BitVec 4) (r : BitVec 28) : opField (op ++ r) = op :=
  BitVec.extractLsb'_append_eq_left

/-- Settles O52: the two rows are refused whatever they carry, and so is every word with one of their operation codes. -/
theorem reservedRowsAreRefused : Obligations.ReservedRowsAreRefused := by
  unfold Obligations.ReservedRowsAreRefused
  exact fun s r => ⟨rfl, rfl, (decoderRefusesExactlyTheInvalidWords _).mpr (.inl (opField_append _ r)),
    (decoderRefusesExactlyTheInvalidWords _).mpr (.inr (.inl (opField_append _ r)))⟩

end Sys2Proof
end

section
/-! PROOFS. The assembler reads back what the disassembler writes (30_encoding.md rule R108). -/

namespace Sys2Proof

/-! ## Hexadecimal digits -/

theorem digit?_hexDigit (v : BitVec 4) : digit? (hexDigit v) = some v.toNat := by
  revert v
  decide

/-- A character that belongs to a word: no separator and no start of a comment (log 17). -/
def isWordChar (c : Char) : Bool := c ≠ ' ' ∧ c ≠ '\t' ∧ c ≠ '\r' ∧ c ≠ ',' ∧ c ≠ ';'

theorem isWordChar_hexDigit (v : BitVec 4) : isWordChar (hexDigit v) = true := by
  revert v
  decide

theorem hexByte_isWord (d : Byte) : ∀ c ∈ hexByte d, isWordChar c = true := by
  simp [hexByte, isWordChar_hexDigit, show isWordChar '0' = true by decide, show isWordChar 'x' = true by decide]

theorem hexAddr_isWord (a : Addr) : ∀ c ∈ hexAddr a, isWordChar c = true := by
  simp [hexAddr, isWordChar_hexDigit, show isWordChar '0' = true by decide, show isWordChar 'x' = true by decide]

/-- A hexadecimal digit is read as the next nibble of the number. -/
theorem digits?_hexDigit_cons (acc : Nat) (v : BitVec 4) (cs : List Char) :
    digits? 16 acc (hexDigit v :: cs) = digits? 16 (acc * 16 + v.toNat) cs := by
  simp [digits?, digit?_hexDigit, show v.toNat < 16 from v.isLt]

theorem number?_hexByte (d : Byte) : number? (hexByte d) = some d.toNat := by
  have h := d.isLt
  change digits? 16 0 [hexDigit (d.extractLsb' 4 4), hexDigit (d.extractLsb' 0 4)] = some d.toNat
  simp only [digits?_hexDigit_cons]
  simp only [digits?, BitVec.extractLsb'_toNat, Nat.shiftRight_eq_div_pow, Option.some.injEq]
  omega

theorem number?_hexAddr (a : Addr) : number? (hexAddr a) = some a.toNat := by
  have h := a.isLt
  change digits? 16 0 [hexDigit (a.extractLsb' 12 4), hexDigit (a.extractLsb' 8 4), hexDigit (a.extractLsb' 4 4),
    hexDigit (a.extractLsb' 0 4)] = some a.toNat
  simp only [digits?_hexDigit_cons]
  simp only [digits?, BitVec.extractLsb'_toNat, Nat.shiftRight_eq_div_pow, Option.some.injEq]
  omega

/-- A text of a number that fits its field is read as that operand. -/
theorem operand?_of_number? {n : Nat} {t : List Char} {v : BitVec n} (h : number? t = some v.toNat) :
    operand? n t = some v := by
  simp [operand?, h, v.isLt]

@[simp] theorem operand?_hexByte (d : Byte) : operand? 8 (hexByte d) = some d := operand?_of_number? (number?_hexByte d)

@[simp] theorem operand?_hexAddr (a : Addr) : operand? 16 (hexAddr a) = some a := operand?_of_number? (number?_hexAddr a)

/-! ## The words of a line -/

/-- Characters that belong to a word are collected into it. -/
theorem lineWords_append {w : List Char} (hw : ∀ c ∈ w, isWordChar c = true) (word rest : List Char) :
    lineWords word (w ++ rest) = lineWords (word ++ w) rest := by
  induction w generalizing word with
  | nil => simp
  | cons c w ih =>
    have hc := hw c List.mem_cons_self
    simp only [isWordChar, decide_eq_true_eq] at hc
    obtain ⟨hsp, htab, hcr, hcomma, -⟩ := hc
    simp [lineWords, hsp, htab, hcr, hcomma, ih fun c hc => hw c (List.mem_cons_of_mem _ hc)]

/-- The code of a line without a comment is the whole line. -/
theorem codeWords_of_no_comment {line : List Char} (h : ∀ c ∈ line, c ≠ ';') : codeWords line = lineWords [] line := by
  rw [codeWords, List.takeWhile_eq_self_iff.mpr (by simpa using h)]

theorem ne_semicolon_of_isWord {w : List Char} (hw : ∀ c ∈ w, isWordChar c = true) : ∀ c ∈ w, c ≠ ';' := by
  intro c hc
  have h := hw c hc
  simp only [isWordChar, decide_eq_true_eq] at h
  exact h.2.2.2.2

/-- A keyword and one operand. -/
theorem codeWords_operand {k x : List Char} (hk : ∀ c ∈ k, isWordChar c = true) (hx : ∀ c ∈ x, isWordChar c = true)
    (hk0 : k ≠ []) (hx0 : x ≠ []) : codeWords (k ++ ' ' :: x) = [k, x] := by
  have hline : ∀ c ∈ k ++ ' ' :: x, c ≠ ';' := by
    have h1 := ne_semicolon_of_isWord hk
    have h2 := ne_semicolon_of_isWord hx
    simp_all [or_imp]
  have hlast := lineWords_append hx [] []
  rw [List.append_nil, List.nil_append] at hlast
  rw [codeWords_of_no_comment hline, lineWords_append hk]
  simp [lineWords, hk0, hx0, hlast]

/-- A keyword and two operands. -/
theorem codeWords_operands {k x y : List Char} (hk : ∀ c ∈ k, isWordChar c = true) (hx : ∀ c ∈ x, isWordChar c = true)
    (hy : ∀ c ∈ y, isWordChar c = true) (hk0 : k ≠ []) (hx0 : x ≠ []) (hy0 : y ≠ []) :
    codeWords (k ++ ' ' :: (x ++ ',' :: ' ' :: y)) = [k, x, [','], y] := by
  have hline : ∀ c ∈ k ++ ' ' :: (x ++ ',' :: ' ' :: y), c ≠ ';' := by
    have h1 := ne_semicolon_of_isWord hk
    have h2 := ne_semicolon_of_isWord hx
    have h3 := ne_semicolon_of_isWord hy
    simp_all [or_imp]
  have hlast := lineWords_append hy [] []
  rw [List.append_nil, List.nil_append] at hlast
  rw [codeWords_of_no_comment hline, lineWords_append hk]
  simp [lineWords, hk0, hx0, hy0, lineWords_append hx, hlast]

/-! ## The lines of the transactions -/

theorem assembleLine_rd (a : Addr) : assembleLine (['r', 'd', ' '] ++ hexAddr a) = some (.busRead a) := by
  have hw : codeWords (['r', 'd', ' '] ++ hexAddr a) = [['r', 'd'], hexAddr a] :=
    codeWords_operand (k := ['r', 'd']) (by simp [isWordChar]) (hexAddr_isWord a) (by decide) (by simp [hexAddr])
  rw [assembleLine, hw]
  simp [parseWords]

theorem assembleLine_wr (a : Addr) (d : Byte) :
    assembleLine (['w', 'r', ' '] ++ hexAddr a ++ [',', ' '] ++ hexByte d) = some (.busWrite a d) := by
  have hw : codeWords (['w', 'r', ' '] ++ hexAddr a ++ [',', ' '] ++ hexByte d) =
      [['w', 'r'], hexAddr a, [','], hexByte d] := by
    have h := codeWords_operands (k := ['w', 'r']) (by simp [isWordChar]) (hexAddr_isWord a) (hexByte_isWord d) (by decide)
      (by simp [hexAddr]) (by simp [hexByte])
    simpa using h
  rw [assembleLine, hw]
  simp [parseWords]

/-- A keyword with one data byte. -/
theorem assembleLine_data {k : List Char} {i : Instr} {d : Byte} (hk : ∀ c ∈ k, isWordChar c = true) (hk0 : k ≠ [])
    (hrd : k ≠ ['r', 'd']) (hi : dataKeyword? k d = some i) : assembleLine (k ++ ' ' :: hexByte d) = some i := by
  have hw : codeWords (k ++ ' ' :: hexByte d) = [k, hexByte d] :=
    codeWords_operand hk (hexByte_isWord d) hk0 (by simp [hexByte])
  rw [assembleLine, hw]
  simp [parseWords, hrd, hi]

/-- Settles O6: the disassembler writes each operand as one word, which is read back as the operand. -/
theorem assemblerReadsBackTheText : Obligations.AssemblerReadsBackTheText := by
  unfold Obligations.AssemblerReadsBackTheText
  intro i text h
  cases i with
  | busRead a | busReadRam a | busReadFree a | busReadIo a | busReadBank a | busReadRom a =>
    cases h; exact assembleLine_rd a
  | busWrite a d | busWriteRam a d | busWriteFree a d | busWriteIo a d | busWriteBank a d | busWriteRom a d =>
    cases h; exact assembleLine_wr a d
  | bankSelect d =>
    cases h; exact assembleLine_data (k := ['b', 'a', 'n', 'k']) (by simp [isWordChar]) (by decide) (by decide) rfl
  | sndCtrlWrite d =>
    cases h; exact assembleLine_data (k := ['s', 'n', 'd', 'c', 'w']) (by simp [isWordChar]) (by decide) (by decide) rfl
  | sndDataWrite d =>
    cases h; exact assembleLine_data (k := ['s', 'n', 'd', 'd', 'w']) (by simp [isWordChar]) (by decide) (by decide) rfl
  | sndStrobeWrite d =>
    cases h; exact assembleLine_data (k := ['s', 'n', 'd', 's', 't']) (by simp [isWordChar]) (by decide) (by decide) rfl
  | irqClear | firqClear | frameTick | irqTick | sndCtrlRead | sndDataRead | sndReply | reset => cases h; decide
  | reservedE rest => cases h
  | reservedF rest => cases h

end Sys2Proof
end

section
/-! PROOFS. Which transaction writes which field, read off the effects (10_state.md section 9). -/

namespace Sys2Proof.Machine

variable {i : Instr} {s t : State}

/-! ## What no transaction writes -/

theorem Effect.cfg (h : Effect s i t) : t.cfg = s.cfg := by
  cases h <;> simp [State.emitAll, State.afterFrameTick]

theorem Effect.inputs (h : Effect s i t) : t.inputs = s.inputs := by
  cases h <;> simp [State.emitAll, State.afterFrameTick]

theorem Effect.now (h : Effect s i t) : t.now = s.now := by
  cases h <;> simp [State.emitAll, State.afterFrameTick]

/-! ## Registers, lines, counters and schedules -/

theorem Effect.curBank (h : Effect s i t) (hb : ∀ d, i ≠ .bankSelect d) (hr : i ≠ .reset) : t.curBank = s.curBank := by
  cases h with
  | bankSelect d => exact absurd rfl (hb d)
  | reset => exact absurd rfl hr
  | _ => simp [State.emitAll, State.afterFrameTick]

theorem Effect.irqLine (h : Effect s i t) (hi : i ∉ [.irqTick, .irqClear, .reset]) : t.irqLine = s.irqLine := by
  cases h with
  | irqTick | irqClear | reset => simp at hi
  | _ => simp [State.emitAll, State.afterFrameTick]

theorem Effect.firqLine (h : Effect s i t) (hi : i ∉ [.sndReply, .firqClear, .reset]) : t.firqLine = s.firqLine := by
  cases h with
  | sndReply | firqClear | reset => simp at hi
  | _ => simp [State.emitAll, State.afterFrameTick]

theorem Effect.frameCount (h : Effect s i t) (hf : i ≠ .frameTick) (hr : i ≠ .reset) :
    t.frameCount = s.frameCount ∧ t.digitOut = s.digitOut := by
  cases h with
  | frameTick => exact absurd rfl hf
  | reset => exact absurd rfl hr
  | _ => simp [State.emitAll]

theorem Effect.nextFrame (h : Effect s i t) (hf : i ≠ .frameTick) : t.nextFrame = s.nextFrame := by
  cases h with
  | frameTick => exact absurd rfl hf
  | _ => simp [State.emitAll]

theorem Effect.irqCount (h : Effect s i t) (hi : i ≠ .irqTick) (hr : i ≠ .reset) : t.irqCount = s.irqCount := by
  cases h with
  | irqTick => exact absurd rfl hi
  | reset => exact absurd rfl hr
  | _ => simp [State.emitAll, State.afterFrameTick]

theorem Effect.nextIrq (h : Effect s i t) (hi : i ≠ .irqTick) : t.nextIrq = s.nextIrq := by
  cases h with
  | irqTick => exact absurd rfl hi
  | _ => simp [State.emitAll, State.afterFrameTick]

/-! ## Memories, trace and result -/

theorem Effect.memories (h : Effect s i t) (hw : ∀ a d, i.transaction ≠ .busWrite a d) (hr : i ≠ .reset) :
    t.ram = s.ram ∧ t.free = s.free := by
  cases h with
  | storeRam hi | storeFree hi => exact absurd hi (hw _ _)
  | reset => exact absurd rfl hr
  | _ => simp [State.emitAll, State.afterFrameTick]

theorem Effect.freeEpoch (h : Effect s i t) (hr : i ≠ .reset) : t.freeEpoch = s.freeEpoch := by
  cases h with
  | reset => exact absurd rfl hr
  | _ => simp [State.emitAll, State.afterFrameTick]

theorem Effect.trace (h : Effect s i t) : s.trace <+: t.trace := by
  cases h <;> simp [State.emitAll, State.afterFrameTick]

/-- A bus write, or a sub-row of it, is none of the reads. -/
theorem not_read_of_busWrite {a : Addr} {d : Byte} (hi : i.transaction = .busWrite a d) :
    ¬ ((∃ a, i.transaction = .busRead a) ∨ i = .sndCtrlRead ∨ i = .sndDataRead) := by
  rintro (⟨a', h⟩ | rfl | rfl)
  · rw [hi] at h
    cases h
  · cases hi
  · cases hi

theorem Effect.result (h : Effect s i t) :
    t.result.isSome = true ↔ (∃ a, i.transaction = .busRead a) ∨ i = .sndCtrlRead ∨ i = .sndDataRead := by
  cases h with
  | read hi | readIo hi => exact iff_of_true rfl (.inl ⟨_, hi⟩)
  | storeRam hi | protectedRam hi | storeFree hi | writeIo hi | writeImage hi =>
    exact iff_of_false (by simp) (not_read_of_busWrite hi)
  | sndCtrlRead => exact iff_of_true rfl (.inr (.inl rfl))
  | sndDataRead => exact iff_of_true rfl (.inr (.inr rfl))
  | sndReadZero hi => exact iff_of_true rfl (.inr hi)
  | sndWrite hi => obtain rfl | rfl | rfl := hi <;> simp [Instr.transaction]
  | bankSelect | irqClear | firqClear | frameTick | irqTick | sndReply | reset =>
    simp [Instr.transaction, State.afterFrameTick]

/-! ## Answers and free values -/

theorem Effect.protection (h : Effect s i t) (hw : ∀ a d, i.transaction ≠ .busWrite a d) :
    t.answers.protActive = s.answers.protActive ∧ t.answers.protMask = s.answers.protMask := by
  cases h with
  | storeRam hi | protectedRam hi => exact absurd hi (hw _ _)
  | _ => simp [State.emitAll, State.afterFrameTick]

theorem Effect.segment (h : Effect s i t) (hf : i ≠ .frameTick) : t.answers.segment = s.answers.segment := by
  cases h with
  | frameTick => exact absurd rfl hf
  | _ => simp [State.emitAll]

theorem Effect.ctlRead (h : Effect s i t) (hr : ∀ a, i.transaction ≠ .busRead a) :
    t.answers.ctlRead = s.answers.ctlRead := by
  cases h with
  | readIo hi => exact absurd hi (hr _)
  | _ => simp [State.emitAll, State.afterFrameTick]

theorem Effect.priCtrlRead (h : Effect s i t) (hr : i ≠ .sndCtrlRead) : t.answers.priCtrlRead = s.answers.priCtrlRead := by
  cases h with
  | sndCtrlRead => exact absurd rfl hr
  | _ => simp [State.emitAll, State.afterFrameTick]

theorem Effect.priDataRead (h : Effect s i t) (hr : i ≠ .sndDataRead) : t.answers.priDataRead = s.answers.priDataRead := by
  cases h with
  | sndDataRead => exact absurd rfl hr
  | _ => simp [State.emitAll, State.afterFrameTick]

theorem Effect.order (h : Effect s i t) :
    t.answers.timerFirst = s.answers.timerFirst ∧ t.answers.inputOrder = s.answers.inputOrder := by
  cases h <;> simp [State.emitAll, State.afterFrameTick]

theorem Effect.drawn_le (h : Effect s i t) : s.drawn ≤ t.drawn := by
  cases h <;> simp [State.emitAll, State.afterFrameTick, drawnAfter_eq, Nat.add_assoc]

theorem Effect.drawn (h : Effect s i t) (hr : ∀ a, i.transaction ≠ .busRead a)
    (hw : ∀ a d, i.transaction ≠ .busWrite a d) (hi : i ∉ [.frameTick, .sndCtrlRead, .sndDataRead, .reset]) :
    t.drawn = s.drawn := by
  cases h with
  | readIo hio => exact absurd hio (hr _)
  | storeRam hst | protectedRam hst => exact absurd hst (hw _ _)
  | frameTick | sndCtrlRead | sndDataRead | reset => simp at hi
  | _ => simp [State.emitAll]

/-- Settles O58: each clause is a frame of the effects. -/
theorem eachFieldHasItsOwnWriters : Obligations.EachFieldHasItsOwnWriters := by
  unfold Obligations.EachFieldHasItsOwnWriters
  intro s t i hexec
  have h := effect_of_exec hexec
  exact ⟨h.cfg, h.inputs, h.now, h.curBank, h.irqLine, h.firqLine, h.frameCount, h.nextFrame, h.irqCount, h.nextIrq,
    h.memories, h.freeEpoch, h.trace, h.result, h.protection, h.segment, h.ctlRead, h.priCtrlRead, h.priDataRead,
    h.order.1, h.order.2, h.drawn_le, h.drawn⟩

end Sys2Proof.Machine
end

section
/-! PROOFS. The interrupt lines and the order of sound events, read off the effects (10_state.md section 3, 43_sound_bridge.md
section 3), and that every well-formed instruction completes (60_exceptions.md section 1). -/

namespace Sys2Proof.Machine

variable {i : Instr} {s t : State}

/-! ## Which transaction moves which line -/

/-- RESET apart, the standard line is moved by IRQ_TICK and IRQ_CLEAR only, each one way (10_state.md rule R36). -/
theorem Effect.irqLine_cases (h : Effect s i t) (hr : i ≠ .reset) :
    t.irqLine = s.irqLine ∨ (i = .irqTick ∧ t.irqLine = true) ∨ (i = .irqClear ∧ t.irqLine = false) := by
  cases h <;> simp_all [State.emitAll, State.afterFrameTick]

/-- RESET apart, the fast line is moved by SND_REPLY and FIRQ_CLEAR only, each one way (R37). -/
theorem Effect.firqLine_cases (h : Effect s i t) (hr : i ≠ .reset) :
    t.firqLine = s.firqLine ∨ (i = .sndReply ∧ t.firqLine = true) ∨ (i = .firqClear ∧ t.firqLine = false) := by
  cases h <;> simp_all [State.emitAll, State.afterFrameTick]

/-- Settles O48: of the two transactions that move a line, the direction tells which it was. -/
theorem onlyTheNamedTransactionsMoveTheLines : Obligations.OnlyTheNamedTransactionsMoveTheLines := by
  unfold Obligations.OnlyTheNamedTransactionsMoveTheLines
  intro s t i hexec hr
  have hirq := (effect_of_exec hexec).irqLine_cases hr
  have hfirq := (effect_of_exec hexec).firqLine_cases hr
  refine ⟨fun hs ht => ?_, fun hs ht => ?_, fun hs ht => ?_, fun hs ht => ?_⟩
  · simpa [hs, ht] using hirq
  · simpa [hs, ht] using hirq
  · simpa [hs, ht] using hfirq
  · simpa [hs, ht] using hfirq

/-! ## An effect is what the instruction does -/

/-- The address of a sub-row lies in its region (30_encoding.md rule R104). -/
def InPlace (c : Config) (i : Instr) : Prop := ∀ r a, i.subRow = some (r, a) → region c a = r

theorem inPlace_of_exec (h : exec i s = .next t) : InPlace s.cfg i := fun _ _ hi => region_of_exec_subRow hi h

/-- An instruction whose address is in place runs as its transaction. -/
theorem exec_eq_transaction (hp : InPlace s.cfg i) : exec i s = exec i.transaction s := by
  cases hi : i.subRow with
  | none => rw [Instr.transaction_of_not_subRow hi]
  | some x => exact exec_subRow_eq_transaction hi (hp _ _ hi)

theorem exec_busRead_of_byteAt {a : Addr} {b : Byte} (hb : s.byteAt a = some b) :
    exec (.busRead a) s = .next (s.setResult (some b)) := by
  change execBusRead a s = _
  cases hr : region s.cfg a with
  | ram =>
    simp only [State.byteAt, hr, Option.some.injEq] at hb
    simp only [execBusRead, hr, readRam, State.returning_eq, hb]
  | free =>
    simp only [State.byteAt, hr, Option.some.injEq] at hb
    simp only [execBusRead, hr, readFree, State.returning_eq, hb]
  | io => simp only [State.byteAt, hr, reduceCtorEq] at hb
  | bank =>
    simp only [State.byteAt, hr] at hb
    simp only [execBusRead, hr, readBank, State.returningImage_of_some hb]
  | rom =>
    simp only [State.byteAt, hr] at hb
    simp only [execBusRead, hr, readRom, State.returningImage_of_some hb]

theorem exec_busRead_of_io {a : Addr} (hr : region s.cfg a = .io) :
    exec (.busRead a) s =
      .next ((s.emit (.ctlRead (a.toNat - s.cfg.ioBase))).afterCtlRead.setResult (some s.answerCtlRead)) := by
  change execBusRead a s = _
  simp only [execBusRead, hr]
  rfl

theorem exec_busWrite_of_free {a : Addr} (d : Byte) (hr : region s.cfg a = .free) :
    exec (.busWrite a d) s = .next ((s.storeFree (a.toNat - s.cfg.freeBase) d).setResult none) := by
  change execBusWrite a d s = _
  simp only [execBusWrite, hr, writeFree, State.done_eq]

theorem exec_busWrite_of_io {a : Addr} (d : Byte) (hr : region s.cfg a = .io) :
    exec (.busWrite a d) s = .next ((s.emit (.ctlWrite (a.toNat - s.cfg.ioBase) d)).setResult none) := by
  change execBusWrite a d s = _
  simp only [execBusWrite, hr, writeIo, State.done_eq]

theorem exec_busWrite_of_image {a : Addr} (d : Byte) (hr : region s.cfg a = .bank ∨ region s.cfg a = .rom) :
    exec (.busWrite a d) s = .next (s.setResult none) := by
  change execBusWrite a d s = _
  obtain hr | hr := hr
  · simp only [execBusWrite, hr, writeBank, State.done_eq]
  · simp only [execBusWrite, hr, writeRom, State.done_eq]

theorem exec_of_effect (h : Effect s i t) (hp : InPlace s.cfg i) : exec i s = .next t := by
  cases h with
  | read hi hio hb => rw [exec_eq_transaction hp, hi, exec_busRead_of_byteAt hb]
  | readIo hi hio => rw [exec_eq_transaction hp, hi, exec_busRead_of_io hio]
  | storeRam hi hr hu => rw [exec_eq_transaction hp, hi, exec_busWrite_of_ram _ hr, writeRam_of_unprotected _ hu]
  | protectedRam hi hr hu => rw [exec_eq_transaction hp, hi, exec_busWrite_of_ram _ hr, writeRam_of_protected _ hu]
  | storeFree hi hr => rw [exec_eq_transaction hp, hi, exec_busWrite_of_free _ hr]
  | writeIo hi hr => rw [exec_eq_transaction hp, hi, exec_busWrite_of_io _ hr]
  | writeImage hi hr => rw [exec_eq_transaction hp, hi, exec_busWrite_of_image _ hr]
  | bankSelect | irqClear | firqClear | irqTick | reset => rfl
  | frameTick => exact exec_frameTick_eq s
  | sndCtrlRead hc => exact exec_sndCtrlRead_of_primary hc
  | sndDataRead hc => exact exec_sndDataRead_of_primary hc
  | sndReadZero hi hc =>
    obtain rfl | rfl := hi
    · exact exec_sndCtrlRead_of_not_primary hc
    · exact exec_sndDataRead_of_not_primary hc
  | sndWrite hi =>
    obtain rfl | rfl | rfl := hi
    · exact exec_sndCtrlWrite_eq _ s
    · exact exec_sndDataWrite_eq _ s
    · exact exec_sndStrobeWrite_eq _ s
  | sndReply hc => exact exec_sndReply_of_primary hc

/-- An instruction ends in `t` exactly when its address is in place and `t` is its effect. -/
theorem exec_next_iff : exec i s = .next t ↔ InPlace s.cfg i ∧ Effect s i t :=
  ⟨fun h => ⟨inPlace_of_exec h, effect_of_exec h⟩, fun ⟨hp, h⟩ => exec_of_effect h hp⟩

/-! ## The lines are independent -/

/-- Both lines at given levels. -/
def State.withLines (s : State) (b b' : Bool) : State := { s with irqLine := b, firqLine := b' }

/-- An effect that moves no line is the same at every level of the lines, which it carries through. -/
theorem Effect.withLines (h : Effect s i t) (hi : i ∉ [.irqTick, .irqClear, .sndReply, .firqClear, .reset]) (b b' : Bool) :
    Effect (s.withLines b b') i (t.withLines b b') := by
  cases h with
  | read hi hio hb => exact .read hi hio hb
  | readIo hi hio => exact .readIo hi hio
  | storeRam hi hr hu => exact .storeRam hi hr hu
  | protectedRam hi hr hu => exact .protectedRam hi hr hu
  | storeFree hi hr => exact .storeFree hi hr
  | writeIo hi hr => exact .writeIo hi hr
  | writeImage hi hr => exact .writeImage hi hr
  | bankSelect d => exact .bankSelect d
  | frameTick => exact .frameTick
  | sndCtrlRead hc => exact .sndCtrlRead hc
  | sndDataRead hc => exact .sndDataRead hc
  | sndReadZero hi hc => exact .sndReadZero hi hc
  | sndWrite hi => exact .sndWrite hi
  | irqTick | irqClear | sndReply | firqClear | reset => simp at hi

theorem exec_withLines (h : exec i s = .next t) (hi : i ∉ [.irqTick, .irqClear, .sndReply, .firqClear, .reset])
    (b b' : Bool) : exec i (s.withLines b b') = .next (t.withLines b b') := by
  obtain ⟨hp, heff⟩ := exec_next_iff.mp h
  exact exec_next_iff.mpr ⟨hp, heff.withLines hi b b'⟩

/-- The level of the fast line is carried through by every instruction that does not write it (R37, decision D15). -/
theorem exec_setFirqLine (h : exec i s = .next t) (hi : i ∉ [.sndReply, .firqClear, .reset]) (b : Bool) :
    exec i (s.setFirqLine b) = .next (t.setFirqLine b) := by
  by_cases hirq : i = .irqTick ∨ i = .irqClear
  · obtain rfl | rfl := hirq <;> cases h <;> rfl
  · have hline : t.irqLine = s.irqLine := (effect_of_exec h).irqLine (by simp_all)
    have ht : t.withLines s.irqLine b = t.setFirqLine b := by rw [← hline]; rfl
    exact ht ▸ exec_withLines h (by simp_all) s.irqLine b

/-- The level of the standard line is carried through by every instruction that does not write it (R36, decision D15). -/
theorem exec_setIrqLine (h : exec i s = .next t) (hi : i ∉ [.irqTick, .irqClear, .reset]) (b : Bool) :
    exec i (s.setIrqLine b) = .next (t.setIrqLine b) := by
  by_cases hfirq : i = .sndReply ∨ i = .firqClear
  · obtain rfl | rfl := hfirq
    · by_cases hc : s.cfg.soundCase = .primary
      · rw [exec_sndReply_of_primary hc] at h
        cases h
        exact exec_sndReply_of_primary hc
      · rw [exec_sndReply_of_not_primary hc] at h
        cases h
    · cases h
      rfl
  · have hline : t.firqLine = s.firqLine := (effect_of_exec h).firqLine (by simp_all)
    have ht : t.withLines b s.firqLine = t.setIrqLine b := by rw [← hline]; rfl
    exact ht ▸ exec_withLines h (by simp_all) b s.firqLine

/-- Settles O49: the two lines are carried through apart, and RESET draws both without reading either. -/
theorem interruptLinesAreIndependent : Obligations.InterruptLinesAreIndependent := by
  unfold Obligations.InterruptLinesAreIndependent
  exact fun s t i b b' h => ⟨fun hi => exec_setFirqLine h hi b, fun hi => exec_setIrqLine h hi b, rfl⟩

/-! ## The legacy protocol -/

/-- Under the legacy protocol an instruction emits no pulse, or begins with a latch (43_sound_bridge.md rule R199). -/
theorem Effect.emits (h : Effect s i t) (hc : s.cfg.soundCase = .legacy) :
    ∃ es, t.trace = s.trace ++ es ∧ (.legTrigger true ∉ es ∨ ∃ b rest, es = .legData b :: rest) := by
  cases h with
  | read | storeRam | storeFree | writeImage | bankSelect | irqClear | firqClear | irqTick | sndReadZero | sndReply | reset =>
    exact ⟨[], (List.append_nil _).symm, .inl List.not_mem_nil⟩
  | readIo | protectedRam | writeIo | sndCtrlRead | sndDataRead => exact ⟨_, rfl, .inl (by simp)⟩
  | frameTick => exact ⟨_, List.append_assoc _ _ _, .inl (by simp)⟩
  | @sndWrite _ b hi =>
    refine ⟨_, rfl, .inr ⟨b, ?_⟩⟩
    rw [hc]
    obtain rfl | rfl | rfl := hi
    · exact ⟨_, rfl⟩
    · exact ⟨_, rfl⟩
    · exact ⟨_, rfl⟩

/-- In such a list a latch stands before each pulse. -/
theorem latch_before_pulse {es pre post : List Event} (h : .legTrigger true ∉ es ∨ ∃ b rest, es = .legData b :: rest)
    (hes : es = pre ++ .legTrigger true :: post) : ∃ b, .legData b ∈ pre := by
  obtain h | ⟨b, rest, rfl⟩ := h
  · exact absurd (by simp [hes]) h
  · cases pre with
    | nil => cases hes
    | cons e pre =>
      obtain ⟨rfl, -⟩ := List.cons.inj hes
      exact ⟨b, List.mem_cons_self⟩

/-- Settles O45: `Effect.emits` for every instruction, and the events of a strobe are those of a data write and two more. -/
theorem legacyLatchPrecedesEveryPulse : Obligations.LegacyLatchPrecedesEveryPulse := by
  unfold Obligations.LegacyLatchPrecedesEveryPulse
  refine ⟨fun s t i es pre post hp hv hexec ht hes => ?_, fun s b hp hv => ?_⟩
  · obtain ⟨es', ht', h⟩ := (effect_of_exec hexec).emits (soundCase_of_legacy hp hv)
    obtain rfl : es = es' := List.append_cancel_left (ht.symm.trans ht')
    exact latch_before_pulse h hes
  · refine ⟨_, _, exec_sndStrobeWrite_eq b s, exec_sndDataWrite_eq b s, ?_⟩
    simp [soundCase_of_legacy hp hv, soundEvents, State.emitAll, State.setResult]

/-! ## Completion -/

/-- A well-formed instruction has its address in place. -/
theorem inPlace_of_wf {c : Config} (h : i.wf c = true) : InPlace c i := fun _ _ hi => Instr.region_of_wf h hi

theorem exec_transaction_completes (hs : s.Inv) (hn : i.notReserved = true)
    (hr : i = .sndReply → s.cfg.soundCase = .primary) : ∃ t, exec i.transaction s = .next t := by
  cases i with
  | busRead a | busReadRam a | busReadFree a | busReadIo a | busReadBank a | busReadRom a =>
    obtain ⟨t, -, h, -⟩ := exec_busRead_returns_byte a hs
    exact ⟨t, h⟩
  | busWrite a d | busWriteRam a d | busWriteFree a d | busWriteIo a d | busWriteBank a d | busWriteRom a d =>
    obtain ⟨t, h, -⟩ := exec_busWrite_returns_none a d s
    exact ⟨t, h⟩
  | bankSelect | irqClear | firqClear | irqTick | reset => exact ⟨_, rfl⟩
  | frameTick => exact ⟨_, exec_frameTick_eq s⟩
  | sndCtrlRead =>
    by_cases hc : s.cfg.soundCase = .primary
    · exact ⟨_, exec_sndCtrlRead_of_primary hc⟩
    · exact ⟨_, exec_sndCtrlRead_of_not_primary hc⟩
  | sndCtrlWrite b => exact ⟨_, exec_sndCtrlWrite_eq b s⟩
  | sndDataRead =>
    by_cases hc : s.cfg.soundCase = .primary
    · exact ⟨_, exec_sndDataRead_of_primary hc⟩
    · exact ⟨_, exec_sndDataRead_of_not_primary hc⟩
  | sndDataWrite b => exact ⟨_, exec_sndDataWrite_eq b s⟩
  | sndStrobeWrite b => exact ⟨_, exec_sndStrobeWrite_eq b s⟩
  | sndReply => exact ⟨_, exec_sndReply_of_primary (hr rfl)⟩
  | reservedE rest => cases hn
  | reservedF rest => cases hn

/-- Settles O57: a well-formed instruction runs as its transaction, and each transaction completes. -/
theorem wellFormedTransactionsComplete : Obligations.WellFormedTransactionsComplete := by
  unfold Obligations.WellFormedTransactionsComplete
  intro s i hs hi hr
  rw [exec_eq_transaction (inPlace_of_wf hi)]
  exact exec_transaction_completes hs (Instr.notReserved_of_wf hi) fun h => soundCase_of_primary (hr h).1 (hr h).2

end Sys2Proof.Machine
end

section
/-! PROOFS. The bytes the block shows: which transaction changes which byte, and what a read finds after a write (20_memory.md
sections 2 and 5, 10_state.md section 9). -/

namespace Sys2Proof.Machine

variable {i : Instr} {s t : State}

/-! ## The bytes after an update -/

@[simp] theorem State.emitAll_byteAt (s : State) (es : List Event) (b : Addr) : (s.emitAll es).byteAt b = s.byteAt b := rfl

@[simp] theorem State.afterFrameTick_byteAt (s : State) (b : Addr) : s.afterFrameTick.byteAt b = s.byteAt b := rfl

theorem State.byteAt_of_ram {a : Addr} (hr : region s.cfg a = .ram) : s.byteAt a = some (s.ramByte a.toNat) := by
  simp only [State.byteAt, hr]

theorem State.byteAt_of_free {a : Addr} (hr : region s.cfg a = .free) :
    s.byteAt a = some (s.freeByte (a.toNat - s.cfg.freeBase)) := by
  simp only [State.byteAt, hr]

theorem State.byteAt_of_bank {a : Addr} (hr : region s.cfg a = .bank) : s.byteAt a = s.cfg.imageByte (s.bankIndex a) := by
  simp only [State.byteAt, hr]

theorem State.byteAt_of_rom {a : Addr} (hr : region s.cfg a = .rom) : s.byteAt a = s.cfg.imageByte (s.romIndex a) := by
  simp only [State.byteAt, hr]

theorem State.storeRam_byteAt_ne {a b : Addr} (d : Byte) (h : b ≠ a) : (s.storeRam a.toNat d).byteAt b = s.byteAt b := by
  have hne : b.toNat ≠ a.toNat := fun he => h (BitVec.eq_of_toNat_eq he)
  unfold State.byteAt
  simp [State.storeRam_ramByte_ne _ _ hne]

theorem State.storeFree_byteAt_ne {a b : Addr} (d : Byte) (hr : region s.cfg a = .free) (h : b ≠ a) :
    (s.storeFree (a.toNat - s.cfg.freeBase) d).byteAt b = s.byteAt b := by
  have hne : b.toNat ≠ a.toNat := fun he => h (BitVec.eq_of_toNat_eq he)
  have ha := region_bounds s.cfg a
  have hb := region_bounds s.cfg b
  simp only [hr] at ha
  unfold State.byteAt
  simp only [storeFree_cfg]
  split
  next => rfl
  next hrb =>
    simp only [hrb] at hb
    rw [State.storeFree_freeByte_ne _ _ (by omega)]
  next => rfl
  next => rfl
  next => rfl

/-- Another bank changes the bytes of the window only (40_banked_rom.md rule R134). -/
theorem State.setBank_byteAt {b : Addr} (n : Nat) (hr : region s.cfg b ≠ .bank) : (s.setBank n).byteAt b = s.byteAt b := by
  cases hrb : region s.cfg b with
  | bank => exact absurd hrb hr
  | ram | free | io | rom => simp [State.byteAt, hrb]

/-- RESET keeps the bytes of the fixed ROM (70_reset_and_hazards.md rule R281). -/
theorem State.afterReset_byteAt {b : Addr} (hr : region s.cfg b = .rom) : s.afterReset.byteAt b = s.byteAt b := by
  simp [State.byteAt, hr]

/-! ## Transactions that store nothing -/

theorem Effect.byteAt (h : Effect s i t) (b : Addr) (hw : ∀ a d, i.transaction ≠ .busWrite a d)
    (hb : ∀ d, i ≠ .bankSelect d) (hr : i ≠ .reset) : t.byteAt b = s.byteAt b := by
  cases h with
  | storeRam hi | protectedRam hi | storeFree hi | writeIo hi | writeImage hi => exact absurd hi (hw _ _)
  | bankSelect d => exact absurd rfl (hb d)
  | reset => exact absurd rfl hr
  | read | readIo | irqClear | firqClear | frameTick | irqTick | sndCtrlRead | sndDataRead | sndReadZero | sndWrite
  | sndReply => simp

/-- Settles O33: only the bus writes store, BANK_SELECT moves the window alone, and RESET leaves the image. -/
theorem nonStoringTransactionsKeepEveryByte : Obligations.NonStoringTransactionsKeepEveryByte := by
  unfold Obligations.NonStoringTransactionsKeepEveryByte
  refine fun s t i b h => ⟨(effect_of_exec h).byteAt b, ?_, ?_⟩
  · rintro ⟨d, rfl⟩ hr
    cases h
    exact State.setBank_byteAt _ hr
  · rintro rfl hr
    cases h
    exact State.afterReset_byteAt hr

/-! ## Bus writes -/

/-- A bus write is no instruction of another transaction. -/
theorem ne_of_busWrite {a : Addr} {d : Byte} {j : Instr} (hi : i.transaction = .busWrite a d)
    (hj : j.transaction ≠ .busWrite a d) : i ≠ j := fun h => hj (h ▸ hi)

/-- A bus write changes no byte but the one it stores (20_memory.md section 2, decision D9). -/
theorem Effect.busWrite_byteAt (h : Effect s i t) {a b : Addr} {d : Byte} (hi : i.transaction = .busWrite a d)
    (hb : b ≠ a ∨ ¬ (region s.cfg a = .free ∨ region s.cfg a = .ram ∧
      isProtected s.answerProtActive s.afterProtActive.answerProtMask a = false)) : t.byteAt b = s.byteAt b := by
  cases h with
  | storeRam hi' hr hu =>
    cases hi.symm.trans hi'
    have hne : b ≠ a := hb.resolve_right fun h => h (.inr ⟨hr, hu⟩)
    simp [State.storeRam_byteAt_ne _ hne]
  | storeFree hi' hr =>
    cases hi.symm.trans hi'
    have hne : b ≠ a := hb.resolve_right fun h => h (.inl hr)
    simp [State.storeFree_byteAt_ne _ hr hne]
  | protectedRam | writeIo | writeImage => simp
  | read hi' | readIo hi' => cases hi.symm.trans hi'
  | sndReadZero hi' => obtain rfl | rfl := hi' <;> cases hi
  | sndWrite hi' => obtain rfl | rfl | rfl := hi' <;> cases hi
  | bankSelect | irqClear | firqClear | frameTick | irqTick | sndCtrlRead | sndDataRead | sndReply | reset => cases hi

/-- Settles O32: the one byte is `Effect.busWrite_byteAt`, and the other fields have other writers. -/
theorem busWriteChangesOnlyTheStoredByte : Obligations.BusWriteChangesOnlyTheStoredByte := by
  unfold Obligations.BusWriteChangesOnlyTheStoredByte
  intro s t a d i hmem hexec
  have h := effect_of_exec hexec
  have hi : i.transaction = .busWrite a d := by
    simp only [List.mem_cons, List.not_mem_nil, or_false] at hmem
    obtain rfl | rfl | rfl | rfl | rfl | rfl := hmem <;> rfl
  have hreset : i ≠ .reset := ne_of_busWrite hi nofun
  have hframe : i ≠ .frameTick := ne_of_busWrite hi nofun
  have hirq : i ≠ .irqTick := ne_of_busWrite hi nofun
  have hirqc : i ≠ .irqClear := ne_of_busWrite hi nofun
  have hreply : i ≠ .sndReply := ne_of_busWrite hi nofun
  have hfirqc : i ≠ .firqClear := ne_of_busWrite hi nofun
  have hcount := h.frameCount hframe hreset
  exact ⟨fun b hb => h.busWrite_byteAt hi hb, h.cfg, h.curBank (fun _ => ne_of_busWrite hi nofun) hreset,
    h.irqLine (by simp [hirq, hirqc, hreset]), h.firqLine (by simp [hreply, hfirqc, hreset]), hcount.1,
    h.irqCount hirq hreset, hcount.2, h.nextFrame hframe, h.nextIrq hirq, h.freeEpoch hreset⟩

/-! ## Bus reads -/

/-- Outside the controller's window BUS_READ ends exactly where the block shows a byte, which it returns. -/
theorem exec_busRead_next_iff {a : Addr} (hio : region s.cfg a ≠ .io) :
    exec (.busRead a) s = .next t ↔ ∃ b, s.byteAt a = some b ∧ t = s.setResult (some b) := by
  refine ⟨fun h => ?_, fun ⟨b, hb, ht⟩ => ht ▸ exec_busRead_of_byteAt hb⟩
  cases effect_of_exec h with
  | read hi _ hb => cases hi; exact ⟨_, hb, rfl⟩
  | readIo hi hr => cases hi; exact absurd hr hio
  | storeRam hi | protectedRam hi | storeFree hi | writeIo hi | writeImage hi => cases hi
  | sndReadZero hi => simp at hi
  | sndWrite hi => simp at hi

/-- Settles O30: the read sets the result alone, so the same byte stands there for the second read. -/
theorem readsHaveNoSideEffects : Obligations.ReadsHaveNoSideEffects := by
  unfold Obligations.ReadsHaveNoSideEffects
  intro s t a hio h
  obtain ⟨b, hb, rfl⟩ := (exec_busRead_next_iff hio).mp h
  exact ⟨rfl, hb.symm, exec_busRead_of_byteAt (s := s.setResult (some b)) hb⟩

/-- Settles O31: the laws of the two memories give the byte that the block shows after the store. -/
theorem readAfterWriteReturnsTheByte : Obligations.ReadAfterWriteReturnsTheByte := by
  unfold Obligations.ReadAfterWriteReturnsTheByte
  refine fun s a d => ⟨fun hr hu => ?_, fun hr => ?_⟩
  · refine ⟨_, _, (exec_busWrite_of_ram d hr).trans (writeRam_of_unprotected d hu), exec_busRead_of_byteAt (b := d) ?_, rfl⟩
    rw [State.byteAt_of_ram (by simpa using hr)]
    simp
  · refine ⟨_, _, exec_busWrite_of_free d hr, exec_busRead_of_byteAt (b := d) ?_, rfl⟩
    rw [State.byteAt_of_free (by simpa using hr)]
    simp

/-! ## The banked window -/

/-- The byte at each offset of the window is that of the current slice (40_banked_rom.md rule R134). -/
theorem State.Inv.window_byte {k : Nat} (hs : s.Inv) (hk : k < s.cfg.bankSize) :
    ∃ b, s.cfg.imageByte (s.cfg.baseOffset + s.curBank * s.cfg.bankSize + k) = some b ∧
      s.byteAt (BitVec.ofNat 16 (s.cfg.bankBase + k)) = some b := by
  have hf := Config.facts hs.1
  have hwindow := hf.window_eq_bank
  have htop := hf.rom_lt_top
  have ha : (BitVec.ofNat 16 (s.cfg.bankBase + k)).toNat = s.cfg.bankBase + k := by
    rw [BitVec.toNat_ofNat, Nat.mod_eq_of_lt (by omega)]
  have hr : region s.cfg (BitVec.ofNat 16 (s.cfg.bankBase + k)) = .bank := region_bank hs.1 (by omega) (by omega)
  obtain ⟨b, hb⟩ := s.cfg.imageByte_eq_some (State.bankIndex_lt_imageSize hs hr)
  refine ⟨b, ?_, (State.byteAt_of_bank hr).trans hb⟩
  rwa [State.bankIndex, ha, Nat.add_sub_cancel_left] at hb

/-- Settles O29: `window_byte` before and, as BANK_SELECT keeps the invariant, after the selection. -/
theorem windowShowsTheSelectedSlice : Obligations.WindowShowsTheSelectedSlice := by
  unfold Obligations.WindowShowsTheSelectedSlice
  refine fun s k hs hk => ⟨hs.window_byte hk, fun d => ?_⟩
  have ht : ((s.setBank (maskedBank s.cfg d)).setResult none).Inv := (Effect.bankSelect d).inv hs
  obtain ⟨b, himage, hb⟩ := ht.window_byte (k := k) hk
  exact ⟨_, _, b, exec_bankSelect_eq d s, exec_busRead_of_byteAt hb, rfl, himage⟩

end Sys2Proof.Machine
end

section
/-! PROOFS. The order of time: no step runs past what is due earlier, and the time never goes back (20_memory.md rule R83,
42_timers.md rule R173). -/

namespace Sys2Proof.Machine

variable {i : Instr} {s t : State}

theorem Effect.nextFrame_le (h : Effect s i t) : s.nextFrame ≤ t.nextFrame := by
  cases h <;> simp [State.emitAll, State.afterFrameTick]

theorem Effect.nextIrq_le (h : Effect s i t) : s.nextIrq ≤ t.nextIrq := by
  cases h <;> simp [State.emitAll, State.afterFrameTick]

/-- A transaction takes no time, and moves no timer's next firing back. -/
theorem Effect.inOrder (h : Effect s i t) (hs : s.InOrder) : t.InOrder := by
  obtain ⟨hframe, hirq, hin⟩ := hs
  unfold State.InOrder
  rw [h.now, h.inputs]
  exact ⟨hframe.trans h.nextFrame_le, hirq.trans h.nextIrq_le, hin⟩

/-- Time goes on to an event that nothing pending precedes, and the state stays in order. -/
theorem State.inOrder_advanceTo {n : Nat} (hnow : s.now ≤ n) (hframe : n ≤ s.nextFrame) (hirq : n ≤ s.nextIrq)
    (hin : ∀ j ∈ s.inputs, ∀ u ∈ j.due, n ≤ u) : (s.advanceTo n).InOrder ∧ s.now ≤ (s.advanceTo n).now := by
  unfold State.InOrder
  rw [State.advanceTo_now, max_eq_right hnow]
  exact ⟨⟨hframe, hirq, hin⟩, hnow⟩

theorem State.inOrder_setInputs {pre post : List Input} {i : Input} (hs : s.InOrder) (h : s.inputs = pre ++ i :: post) :
    (s.setInputs (pre ++ post)).InOrder := by
  obtain ⟨hframe, hirq, hin⟩ := hs
  refine ⟨hframe, hirq, fun j hj => hin j ?_⟩
  rw [h]
  simp only [State.setInputs_inputs, List.mem_append, List.mem_cons] at hj ⊢
  tauto

/-- Choosing the next event keeps the order of time: the event is due no later than anything else that is pending. -/
theorem State.InOrder.nextEvent (hs : s.InOrder) : s.nextEvent.2.InOrder ∧ s.now ≤ s.nextEvent.2.now := by
  have ⟨hframe, hirq, hin⟩ := hs
  have htimer : s.now ≤ s.timerTime := le_min hframe hirq
  have hmf : s.timerTime ≤ s.nextFrame := min_le_left _ _
  have hmi : s.timerTime ≤ s.nextIrq := min_le_right _ _
  obtain ⟨he | he, hle⟩ | ⟨pre, i, post, hinputs, ⟨hd, he⟩ | ⟨u, hd, hut, hrest, he | he⟩⟩ := s.nextEvent_cases
  · rw [he]
    exact State.inOrder_advanceTo htimer hmf hmi hle
  · rw [he]
    exact State.inOrder_advanceTo (s := s.afterTimerFirst) htimer hmf hmi hle
  · rw [he]
    exact ⟨State.inOrder_setInputs hs hinputs, le_rfl⟩
  · have hnow : s.now ≤ u := hin i (by simp [hinputs]) u hd
    rw [he]
    obtain hc | hc := s.afterInputChoice_cases u <;> rw [hc]
    · exact State.inOrder_advanceTo (s := s.setInputs _) hnow (hut.trans hmf) (hut.trans hmi) hrest
    · exact State.inOrder_advanceTo (s := s.afterInputOrder.setInputs _) hnow (hut.trans hmf) (hut.trans hmi) hrest
  · have hnow : s.now ≤ u := hin i (by simp [hinputs]) u hd
    rw [he]
    obtain hc | hc := s.afterTimerFirst.afterInputChoice_cases u <;> rw [hc]
    · exact State.inOrder_advanceTo (s := s.afterTimerFirst.setInputs _) hnow (hut.trans hmf) (hut.trans hmi) hrest
    · exact State.inOrder_advanceTo (s := s.afterTimerFirst.afterInputOrder.setInputs _) hnow (hut.trans hmf)
        (hut.trans hmi) hrest

/-- Settles O59: at power-on the time is 0; the choice of the next event keeps the order, and the transaction takes no time. -/
theorem everyStepKeepsTheOrderOfTime : Obligations.EveryStepKeepsTheOrderOfTime := by
  unfold Obligations.EveryStepKeepsTheOrderOfTime
  refine ⟨fun c ins ans => ⟨Nat.zero_le _, Nat.zero_le _, fun _ _ _ _ => Nat.zero_le _⟩, fun s t hs h => ?_⟩
  obtain ⟨-, i, -, hi⟩ := step_next_cases h
  have heff := effect_of_exec hi
  obtain ⟨hevent, hnow⟩ := hs.nextEvent
  exact ⟨heff.inOrder hevent, by rwa [heff.now]⟩

end Sys2Proof.Machine
end

section
/-! PROOFS. The two timers: what each firing does, which fires next when no input is pending, and the schedule that they keep
(42_timers.md). -/

namespace Sys2Proof.Machine

variable {s t : State}

/-! ## FRAME_TICK (R170) -/

theorem State.afterFrameTick_digit {k : Nat} (hk : k < s.cfg.digitQueries.length) :
    s.afterFrameTick.digitOut[k]? = some (perm (s.segmentAnswer k)) := by
  simp [State.afterFrameTick, hk]

theorem State.afterFrameTick_query {k : Nat} (hc : s.cfg.wf = true) (hk : k < s.cfg.digitCount) :
    ∃ j, s.cfg.digitSource[k]? = some j ∧ s.afterFrameTick.trace[s.trace.length + k]? = some (.ctlQuerySegment j) := by
  have hq : k < s.cfg.digitQueries.length := (Config.digitQueries_length hc).symm ▸ hk
  have hs : s.cfg.digitQueries[k]? = s.cfg.digitSource[k]? := by simp [Config.digitQueries, hk]
  refine ⟨s.cfg.digitQueries[k], by rw [← hs, List.getElem?_eq_getElem hq], ?_⟩
  simp [State.afterFrameTick, List.append_assoc, List.getElem?_append_right, List.getElem?_append_left, hq]

/-- Settles O34: the state after the tick, `State.afterFrameTick`, written out. -/
theorem frameTickLatchesClearsAndCounts : Obligations.FrameTickLatchesClearsAndCounts := by
  unfold Obligations.FrameTickLatchesClearsAndCounts
  exact fun s => ⟨s.afterFrameTick, exec_frameTick_eq s, by simp [State.afterFrameTick],
    fun k hk => State.afterFrameTick_digit hk,
    fun hc => ⟨Config.digitQueries_length hc, fun k hk => State.afterFrameTick_query hc hk⟩, rfl⟩

/-! ## The segment permutation (R171) -/

/-- One digit of the permutation: shift, and take the next input bit. -/
def permStep (v acc : BitVec 16) (k : Nat) : BitVec 16 := acc <<< 1 ||| (BitVec.ofBool (v.getLsbD k)).setWidth 16

theorem permStep_getLsbD_zero (v acc : BitVec 16) (k : Nat) : (permStep v acc k).getLsbD 0 = v.getLsbD k := by
  simp [permStep]

theorem permStep_getLsbD_succ (v acc : BitVec 16) (k : Nat) {j : Nat} (hj : j + 1 < 16) :
    (permStep v acc k).getLsbD (j + 1) = acc.getLsbD j := by
  simp [permStep, hj, BitVec.getLsbD_eq_getElem (show j < 16 by omega)]

/-- After the sources `ks`, output bit `ks.length - 1 - n` is the input bit that `ks` names at position `n`. -/
theorem foldl_permStep_getLsbD (v acc : BitVec 16) {ks : List Nat} (hlen : ks.length ≤ 16) {n j : Nat} (h : ks[n]? = some j) :
    (ks.foldl (permStep v) acc).getLsbD (ks.length - 1 - n) = v.getLsbD j := by
  induction ks using List.reverseRecOn with
  | nil => simp at h
  | append_singleton ks k ih =>
    simp only [List.length_append, List.length_singleton] at hlen ⊢
    rw [List.foldl_concat]
    by_cases hn : n < ks.length
    · rw [List.getElem?_append_left hn] at h
      rw [show ks.length + 1 - 1 - n = ks.length - 1 - n + 1 by omega, permStep_getLsbD_succ _ _ _ (by omega)]
      exact ih (by omega) h
    · obtain ⟨hlt, hk⟩ := List.getElem?_eq_some_iff.mp h
      obtain rfl : n = ks.length := by simp at hlt; omega
      rw [show ks.length + 1 - 1 - ks.length = 0 by omega, permStep_getLsbD_zero]
      simp [← hk]

/-- Settles O35: `PERM` is the fold of `permStep` over the sixteen sources. -/
theorem permTakesEachOutputBitFromItsInputBit : Obligations.PermTakesEachOutputBitFromItsInputBit := by
  unfold Obligations.PermTakesEachOutputBitFromItsInputBit
  exact fun v k j h => foldl_permStep_getLsbD v 0 (ks := permSource) (by decide) h

/-! ## IRQ_TICK (R172) -/

theorem decode_irqTickWord : decode (txnWord 0x6 0 0) = .decoded .irqTick := by decide

/-- Settles O36: the word's row, and `exec_irqTick_eq` written out. -/
theorem irqTickAssertsAndCounts : Obligations.IrqTickAssertsAndCounts := by
  unfold Obligations.IrqTickAssertsAndCounts
  exact ⟨decode_irqTickWord, exec_irqTick_eq⟩

/-- The two firings write and read apart: each leaves the other's fields, its queries and its answers alone. -/
theorem State.afterFrameTick_of_irqTick (s : State) :
    (((s.setIrqLine true).countIrq).setResult none).afterFrameTick =
      ((s.afterFrameTick.setIrqLine true).countIrq).setResult none := rfl

/-- Settles O38: both orders end in the state of `State.afterFrameTick_of_irqTick`. -/
theorem timerFiringsCommute : Obligations.TimerFiringsCommute := by
  unfold Obligations.TimerFiringsCommute
  exact fun s => ⟨_, _, _, exec_frameTick_eq s, exec_irqTick_eq _, exec_irqTick_eq s,
    (exec_frameTick_eq _).trans (congrArg _ s.afterFrameTick_of_irqTick)⟩

/-! ## A step with no input -/

theorem State.frameIsNext_iff :
    s.frameIsNext = true ↔ s.nextFrame < s.nextIrq ∨ s.nextFrame = s.nextIrq ∧ s.cfg.frameTimerFirst = true := by
  simp [State.frameIsNext]

theorem State.frameIsNext_eq_false :
    s.frameIsNext = false ↔ s.nextIrq < s.nextFrame ∨ s.nextIrq = s.nextFrame ∧ s.cfg.frameTimerFirst = false := by
  rw [← Bool.not_eq_true, State.frameIsNext_iff]
  cases s.cfg.frameTimerFirst with
  | true => simp; omega
  | false => simp; omega

theorem step_of_frameIsNext (hc : s.cfg.wf = true) (hin : s.inputs = []) (hf : s.frameIsNext = true) :
    step s = .next (s.advanceTo s.timerTime).afterFrameTick := by
  have he : s.nextEvent = (encode .frameTick, s.advanceTo s.timerTime) := by
    rw [State.nextEvent_of_no_input hin, State.timerEvent, if_pos hf]
  have hd : decode s.nextEvent.1 = .decoded .frameTick := by
    rw [he]
    exact decode_encode (i := .frameTick) rfl
  rw [step_of_decoded hc hd, he]
  exact exec_frameTick_eq _

theorem step_of_irqIsNext (hc : s.cfg.wf = true) (hin : s.inputs = []) (hf : s.frameIsNext = false) :
    step s = .next ((((s.advanceTo s.timerTime).setIrqLine true).countIrq).setResult none) := by
  have he : s.nextEvent = (encode .irqTick, s.advanceTo s.timerTime) := by
    rw [State.nextEvent_of_no_input hin, State.timerEvent, if_neg (by simp [hf])]
  have hd : decode s.nextEvent.1 = .decoded .irqTick := by
    rw [he]
    exact decode_encode (i := .irqTick) rfl
  rw [step_of_decoded hc hd, he]
  exact exec_irqTick_eq _

/-- Settles O60: the earlier timer fires, at one instant the one registered first, at its own time. -/
theorem quietStepFiresTheDueTimer : Obligations.QuietStepFiresTheDueTimer := by
  unfold Obligations.QuietStepFiresTheDueTimer
  intro s hc hin hframe hirq
  cases hf : s.frameIsNext with
  | true =>
    have hfirst := State.frameIsNext_iff.mp hf
    have hle : s.nextFrame ≤ s.nextIrq := by omega
    have htie (h : s.nextIrq = s.nextFrame) : s.cfg.frameTimerFirst = true := by
      obtain hlt | ⟨-, hreg⟩ := hfirst
      · omega
      · exact hreg
    have htime : max s.now s.timerTime = s.nextFrame := by unfold State.timerTime; omega
    refine ⟨_, step_of_frameIsNext hc hin hf, rfl, hin, ?_⟩
    simpa [State.afterFrameTick, htime] using ⟨hle, htie⟩
  | false =>
    have hfirst := State.frameIsNext_eq_false.mp hf
    have hle : s.nextIrq ≤ s.nextFrame := by omega
    have htie (h : s.nextFrame = s.nextIrq) : s.cfg.frameTimerFirst = false := by
      obtain hlt | ⟨-, hreg⟩ := hfirst
      · omega
      · exact hreg
    have htime : max s.now s.timerTime = s.nextIrq := by unfold State.timerTime; omega
    refine ⟨_, step_of_irqIsNext hc hin hf, rfl, hin, ?_⟩
    simpa [htime] using ⟨hle, htie⟩

/-! ## The schedule from power-on -/

/-- The block under configuration `c` with no input pending, after `f` frame ticks and `q` interrupt ticks of its own timers. -/
structure OnSchedule (c : Config) (f q : Nat) (s : State) : Prop where
  cfg : s.cfg = c
  inputs : s.inputs = []
  nextFrame : s.nextFrame = (f + 1) * framePeriod
  nextIrq : s.nextIrq = (q + 1) * irqPeriod
  frame_fired : f * framePeriod ≤ s.now
  irq_fired : q * irqPeriod ≤ s.now
  frame_pending : s.now ≤ s.nextFrame
  irq_pending : s.now ≤ s.nextIrq
  frameCount : s.frameCount = BitVec.ofNat 16 f
  irqCount : s.irqCount = BitVec.ofNat 32 q
  irqLine : s.irqLine = decide (0 < q)

theorem State.initial_onSchedule (c : Config) : OnSchedule c 0 0 (State.initial c) where
  cfg := rfl
  inputs := rfl
  nextFrame := (Nat.one_mul _).symm
  nextIrq := (Nat.one_mul _).symm
  frame_fired := (Nat.zero_mul _).le
  irq_fired := (Nat.zero_mul _).le
  frame_pending := Nat.zero_le _
  irq_pending := Nat.zero_le _
  frameCount := rfl
  irqCount := rfl
  irqLine := rfl

/-- On its schedule the block takes a step, which is one more firing of one of the timers. -/
theorem OnSchedule.step {c : Config} {f q : Nat} (h : OnSchedule c f q s) (hc : c.wf = true) :
    ∃ t, step s = .next t ∧ (OnSchedule c (f + 1) q t ∨ OnSchedule c f (q + 1) t) := by
  obtain ⟨rfl, hin, hnf, hni, hff, hfi, hpf, hpi, hfc, hic, hline⟩ := h
  obtain ⟨t, ht, hcfg, hin', hpf', hpi', hframe, hirq⟩ := quietStepFiresTheDueTimer s hc hin hpf hpi
  refine ⟨t, ht, ?_⟩
  cases hf : s.frameIsNext with
  | true =>
    obtain ⟨hnow, hnf', hfc', hni', hic', hline'⟩ := hframe (State.frameIsNext_iff.mp hf)
    refine .inl ⟨hcfg, hin', ?_, hni'.trans hni, ?_, ?_, hpf', hpi', ?_, hic'.trans hic, hline'.trans hline⟩
    · rw [hnf', hnf, Nat.succ_mul (f + 1)]
    · rw [hnow, hnf]
    · rw [hnow]; exact hfi.trans hpf
    · rw [hfc', hfc, BitVec.ofNat_add]; rfl
  | false =>
    obtain ⟨hnow, hni', hic', hline', hnf', hfc', -⟩ := hirq (State.frameIsNext_eq_false.mp hf)
    refine .inr ⟨hcfg, hin', hnf'.trans hnf, ?_, ?_, ?_, hpf', hpi', hfc'.trans hfc, ?_, ?_⟩
    · rw [hni', hni, Nat.succ_mul (q + 1)]
    · rw [hnow]; exact hff.trans hpi
    · rw [hnow, hni]
    · rw [hic', hic, BitVec.ofNat_add]; rfl
    · rw [hline']; simp

theorem run_succ_of_step {M : Host.Core} {n : Nat} {s u : M.State} (h : M.step s = .next u) : M.run (n + 1) s = M.run n u := by
  simp only [Host.Core.run, h]

/-- So it goes on for any number of steps. -/
theorem OnSchedule.run {c : Config} {f q : Nat} (h : OnSchedule c f q s) (hc : c.wf = true) (n : Nat) :
    ∃ f' q' t, f' + q' = f + q + n ∧ core.run n s = .next t ∧ OnSchedule c f' q' t := by
  induction n generalizing f q s with
  | zero => exact ⟨f, q, s, rfl, rfl, h⟩
  | succ n ih =>
    obtain ⟨u, hu, hsched | hsched⟩ := h.step hc
    · obtain ⟨f', q', t, hsum, hrun, ht⟩ := ih hsched
      exact ⟨f', q', t, by omega, (run_succ_of_step (M := core) hu).trans hrun, ht⟩
    · obtain ⟨f', q', t, hsum, hrun, ht⟩ := ih hsched
      exact ⟨f', q', t, by omega, (run_succ_of_step (M := core) hu).trans hrun, ht⟩

/-- Settles O12: the block is on its schedule at power-on, and every step keeps it there. -/
theorem timersKeepTheirSchedule : Obligations.TimersKeepTheirSchedule := by
  unfold Obligations.TimersKeepTheirSchedule
  refine ⟨by decide, by decide, by decide, by decide, fun c n hc => ?_⟩
  obtain ⟨f, q, t, hsum, hrun, h⟩ := (State.initial_onSchedule c).run hc n
  exact ⟨f, q, t, by omega, hrun, h.nextFrame, h.nextIrq, h.frame_fired, h.irq_fired, h.frame_pending, h.irq_pending,
    h.frameCount, h.irqCount, h.irqLine⟩

/-! ## Issued words -/

theorem ofNat_toNat_mod (w : Word) : BitVec.ofNat 32 (w.toNat % 2 ^ 32) = w := by
  rw [Nat.mod_eq_of_lt w.isLt, BitVec.ofNat_toNat, BitVec.setWidth_eq]

/-- The word of an instruction, issued as the very next one, runs as the instruction's transaction (log 1). -/
theorem step_withFetchWord_encode {i : Instr} (hc : s.cfg.wf = true) (hi : i.notReserved = true) :
    step (s.withFetchWord 32 (encode i).toNat) = exec i.transaction s := by
  have he : (s.withFetchWord 32 (encode i).toNat).nextEvent = (encode i, s) := by
    rw [State.nextEvent_withFetchWord, ofNat_toNat_mod]
  have hd : decode (s.withFetchWord 32 (encode i).toNat).nextEvent.1 = .decoded i.transaction := by
    rw [he]
    exact decode_encode hi
  have hwf : (s.withFetchWord 32 (encode i).toNat).cfg.wf = true := hc
  rw [step_of_decoded hwf hd, he]

/-- Settles O10: a well-formed instruction is not reserved, so `step_withFetchWord_encode` applies. -/
theorem issuedInstructionIsTheVeryNextStep : Obligations.IssuedInstructionIsTheVeryNextStep := by
  unfold Obligations.IssuedInstructionIsTheVeryNextStep
  exact fun s i hc hi => step_withFetchWord_encode hc (Instr.notReserved_of_wf hi)

/-- Settles O9: `step` is defined by the decoder's verdict on the next word. -/
theorem stepRunsTheDecodedTransaction : Obligations.StepRunsTheDecodedTransaction := by
  unfold Obligations.StepRunsTheDecodedTransaction
  exact fun s hc => ⟨fun i hd => step_of_decoded hc hd, step_of_reserved hc⟩

/-- Settles O8: both look at the configuration first. -/
theorem illFormedConfigurationIsRefused : Obligations.IllFormedConfigurationIsRefused := by
  unfold Obligations.IllFormedConfigurationIsRefused
  exact ⟨fun c hc => by simp [powerOn, hc], fun s hc => by simp [step, hc]⟩

/-- The first of several interrupt ticks issued in a row. -/
theorem step_issued_irqTicks (hc : s.cfg.wf = true) (n : Nat) (l : List Input) :
    step { s with inputs := List.replicate (n + 1) ⟨none, encode .irqTick⟩ ++ l } =
      .next { ((s.setIrqLine true).countIrq).setResult none with
        inputs := List.replicate n ⟨none, encode .irqTick⟩ ++ l } := by
  have h := step_withFetchWord_encode (s := s.setInputs (List.replicate n ⟨none, encode .irqTick⟩ ++ l)) (i := .irqTick)
    hc rfl
  simp only [State.withFetchWord, ofNat_toNat_mod] at h
  exact h

/-- A run of any number of interrupt ticks issued in a row (42_timers.md section 4). -/
theorem run_issued_irqTicks (hc : s.cfg.wf = true) (n : Nat) :
    ∃ t, core.run n { s with inputs := List.replicate n ⟨none, encode .irqTick⟩ ++ s.inputs } = .next t ∧
      t.irqLine = (decide (0 < n) || s.irqLine) ∧ t.irqCount = s.irqCount + BitVec.ofNat 32 n ∧ t.inputs = s.inputs ∧
      t.firqLine = s.firqLine := by
  induction n generalizing s with
  | zero => exact ⟨s, rfl, by simp, by simp, rfl, rfl⟩
  | succ n ih =>
    obtain ⟨t, hrun, hline, hcount, hin, hfirq⟩ := ih (s := ((s.setIrqLine true).countIrq).setResult none) hc
    refine ⟨t, (run_succ_of_step (M := core) (step_issued_irqTicks hc n s.inputs)).trans hrun, ?_, ?_, hin, hfirq⟩
    · simpa using hline
    · rw [hcount, Nat.add_comm n 1, BitVec.ofNat_add, ← BitVec.add_assoc]
      rfl

/-- Settles O37: one tick at least has asserted the line. -/
theorem repeatedIrqTicksKeepTheLineAsserted : Obligations.RepeatedIrqTicksKeepTheLineAsserted := by
  unfold Obligations.RepeatedIrqTicksKeepTheLineAsserted
  intro s n hc hn
  obtain ⟨t, hrun, hline, hcount, hin, hfirq⟩ := run_issued_irqTicks hc n
  exact ⟨t, hrun, by simp [hline, hn], hcount, hin, hfirq⟩

end Sys2Proof.Machine
end

section
/-! PROOFS. The timeline: which input or timer comes next, and in which state it runs (20_memory.md rules R83 and R84,
60_exceptions.md rule R255). -/

namespace Sys2Proof.Machine

variable {s : State} {t : Nat} {i : Input} {pre post : List Input}

/-! ## Answers about an order (log 10) -/

theorem State.answerTimerFirst_of_cons {b : Bool} {bs : List Bool} (h : s.answers.timerFirst = b :: bs) :
    s.answerTimerFirst = b := by
  simp [State.answerTimerFirst, h]

theorem State.answerTimerFirst_of_nil (h : s.answers.timerFirst = []) : s.answerTimerFirst = freeBool s.drawn := by
  simp [State.answerTimerFirst, h]

theorem State.afterTimerFirst_of_cons {b : Bool} {bs : List Bool} (h : s.answers.timerFirst = b :: bs) :
    s.afterTimerFirst = { s with answers := { s.answers with timerFirst := bs } } := by
  simp [State.afterTimerFirst, drawnAfter, h]

theorem State.afterTimerFirst_of_nil (h : s.answers.timerFirst = []) :
    s.afterTimerFirst = { s with drawn := s.drawn + 1 } := by
  calc s.afterTimerFirst
      = { s with answers := { s.answers with timerFirst := [] }, drawn := s.drawn + 1 } := by
        simp [State.afterTimerFirst, drawnAfter, h]
    _ = { s with drawn := s.drawn + 1 } := by rw [← h]

theorem State.answerInputOrder_of_cons {k : Nat} {ks : List Nat} (h : s.answers.inputOrder = k :: ks) (m : Nat) :
    s.answerInputOrder m = k := by
  simp [State.answerInputOrder, h]

theorem State.answerInputOrder_of_nil (h : s.answers.inputOrder = []) (m : Nat) :
    s.answerInputOrder m = (Config.freeValue m s.drawn).toNat := by
  simp [State.answerInputOrder, h]

theorem State.afterInputOrder_of_cons {k : Nat} {ks : List Nat} (h : s.answers.inputOrder = k :: ks) :
    s.afterInputOrder = { s with answers := { s.answers with inputOrder := ks } } := by
  simp [State.afterInputOrder, drawnAfter, h]

theorem State.afterInputOrder_of_nil (h : s.answers.inputOrder = []) :
    s.afterInputOrder = { s with drawn := s.drawn + 1 } := by
  calc s.afterInputOrder
      = { s with answers := { s.answers with inputOrder := [] }, drawn := s.drawn + 1 } := by
        simp [State.afterInputOrder, drawnAfter, h]
    _ = { s with drawn := s.drawn + 1 } := by rw [← h]

/-! ## The timers -/

theorem State.timerEvent_eq (s : State) :
    s.timerEvent =
      (if s.nextFrame < s.nextIrq ∨ s.nextFrame = s.nextIrq ∧ s.cfg.frameTimerFirst = true
        then encode .frameTick else encode .irqTick, { s with now := max s.now (min s.nextFrame s.nextIrq) }) := by
  simp only [State.timerEvent, State.frameIsNext_iff]
  rfl

/-! ## The inputs at one instant -/

theorem dueCount_eq (t : Nat) (l : List Input) : dueCount t l = (l.filter fun i => i.due = some t).length := by
  simp only [dueCount, List.countP_eq_length_filter, beq_eq_decide]

theorem dueCount_middle (hd : i.due = some t) : dueCount t (pre ++ i :: post) = dueCount t (pre ++ post) + 1 := by
  simp [dueCount, List.countP_append, hd, Nat.add_assoc]

/-- A lone input at its instant asks nothing. -/
theorem State.inputEvent_of_lone (first : Input × List Input) (h : s.inputs = pre ++ i :: post) (hd : i.due = some t)
    (hlone : dueCount t (pre ++ post) = 0) :
    s.inputEvent t first = (i.word, { s with inputs := pre ++ post, now := max s.now t }) := by
  have hcount : dueCount t s.inputs ≤ 1 := by rw [h, dueCount_middle hd, hlone]
  have hpre : dueCount t pre = 0 := by
    rw [dueCount, List.countP_append] at hlone
    exact (Nat.add_eq_zero_iff.mp hlone).1
  have hchoice : s.inputChoice t = 0 := if_pos hcount
  rw [State.inputEvent_of_choice first h hd (hpre.trans hchoice.symm), State.afterInputChoice, if_pos hcount]
  rfl

/-- Of several inputs at one instant, the one that the answer about their order says comes first. -/
theorem State.inputEvent_of_several (first : Input × List Input) (h : s.inputs = pre ++ i :: post) (hd : i.due = some t)
    (hmany : 0 < dueCount t (pre ++ post))
    (hk : s.answerInputOrder (dueCount t (pre ++ post) + 1) % (dueCount t (pre ++ post) + 1) = dueCount t pre) :
    s.inputEvent t first = (i.word, (s.afterInputOrder.setInputs (pre ++ post)).advanceTo t) := by
  have hn : dueCount t s.inputs = dueCount t (pre ++ post) + 1 := by rw [h, dueCount_middle hd]
  have hcount : ¬ dueCount t s.inputs ≤ 1 := by omega
  have hchoice : s.inputChoice t = dueCount t pre := by rw [State.inputChoice, if_neg hcount, hn, hk]
  rw [State.inputEvent_of_choice first h hd hchoice.symm, State.afterInputChoice, if_neg hcount]

/-! ## The next event -/

section
variable (h : s.inputs = pre ++ i :: post) (hpre : ∀ j ∈ pre, i.before j = true) (hpost : ∀ j ∈ post, j.before i = false)
include h hpre hpost

theorem State.nextEvent_of_untimed (hd : i.due = none) : s.nextEvent = (i.word, s.setInputs (pre ++ post)) := by
  have he := State.nextEvent_of_earliest h hpre hpost
  rwa [hd] at he

theorem State.nextEvent_of_timed (hd : i.due = some t) :
    s.nextEvent =
      if s.timerTime < t then s.timerEvent
      else if t < s.timerTime then s.inputEvent t (i, pre ++ post)
      else if s.answerTimerFirst then s.afterTimerFirst.timerEvent
      else s.afterTimerFirst.inputEvent t (i, pre ++ post) := by
  have he := State.nextEvent_of_earliest h hpre hpost
  rwa [hd] at he

theorem State.nextEvent_of_earlier (hd : i.due = some t) (hf : t < s.nextFrame) (hi : t < s.nextIrq) :
    s.nextEvent = s.inputEvent t (i, pre ++ post) := by
  have ht : t < s.timerTime := lt_min hf hi
  rw [State.nextEvent_of_timed h hpre hpost hd, if_neg ht.not_gt, if_pos ht]

theorem State.nextEvent_of_later (hd : i.due = some t) (ht : s.nextFrame < t ∨ s.nextIrq < t) :
    s.nextEvent = s.timerEvent := by
  have ht' : s.timerTime < t := min_lt_iff.mpr ht
  rw [State.nextEvent_of_timed h hpre hpost hd, if_pos ht']

theorem State.nextEvent_of_tie (hd : i.due = some t) (ht : t = s.timerTime) :
    s.nextEvent =
      if s.answerTimerFirst then s.afterTimerFirst.timerEvent else s.afterTimerFirst.inputEvent t (i, pre ++ post) := by
  rw [State.nextEvent_of_timed h hpre hpost hd, if_neg ht.not_gt, if_neg ht.not_lt]

end

/-- Settles O11: the cases of `nextEvent` by the earliest input's time, with each answer listed or free. -/
theorem timelineIsOrderedByTime : Obligations.TimelineIsOrderedByTime := by
  unfold Obligations.TimelineIsOrderedByTime
  refine ⟨fun _ _ => Input.before_iff, dueCount_eq, fun s => ⟨s.timerEvent_eq, State.nextEvent_of_no_input, ?_, ?_⟩⟩
  · refine fun pre post i h hpre hpost => ⟨State.nextEvent_of_untimed h hpre hpost, fun t hd =>
      ⟨State.nextEvent_of_earlier h hpre hpost hd, State.nextEvent_of_later h hpre hpost hd, fun ht => ⟨?_, ?_⟩⟩⟩
    · intro b bs hans
      rw [State.nextEvent_of_tie h hpre hpost hd ht, State.answerTimerFirst_of_cons hans,
        State.afterTimerFirst_of_cons hans]
    · intro hans
      rw [State.nextEvent_of_tie h hpre hpost hd ht, State.answerTimerFirst_of_nil hans,
        State.afterTimerFirst_of_nil hans]
  · refine fun pre post i t first h hd => ⟨State.inputEvent_of_lone first h hd, fun hmany => ⟨?_, ?_⟩⟩
    · intro k ks hans hk
      rw [State.inputEvent_of_several first h hd hmany (by rwa [State.answerInputOrder_of_cons hans]),
        State.afterInputOrder_of_cons hans]
      rfl
    · intro hans hk
      rw [State.inputEvent_of_several first h hd hmany (by rwa [State.answerInputOrder_of_nil hans]),
        State.afterInputOrder_of_nil hans]
      rfl

end Sys2Proof.Machine
end

section
/-! PROOFS. Single transactions and configurations: the regions and their parameters, the controller's window, the two ROM regions,
the sound writes, RESET and power-on. -/

namespace Sys2Proof.Machine

variable {s : State} {a : Addr}

/-! ## Configurations and regions -/

/-- Settles O7: the check is the conjunction of the nine conditions; a mask below the bank count needs a bank. -/
theorem wellFormedConfigurationIsWF1ToWF9 : Obligations.WellFormedConfigurationIsWF1ToWF9 := by
  unfold Obligations.WellFormedConfigurationIsWF1ToWF9
  intro c
  simp only [Config.wf, Config.wf1, Config.wf2, Config.wf3, Config.wf4, Config.wf5, Config.wf6, Config.wf7, Config.wf8,
    Config.wf9, Bool.and_eq_true, decide_eq_true_eq, beq_iff_eq, Bool.not_eq_true']
  simp only [Config.windowSize, Config.ramSize, Config.romSize, Config.bankMask]
  constructor
  · rintro ⟨⟨⟨⟨⟨⟨⟨⟨h1, h2⟩, h3⟩, h4⟩, h5⟩, h6⟩, h7⟩, h8⟩, h9⟩
    exact ⟨h1, h2, by omega, by omega, h5, h6, h7, h8, h9, by omega⟩
  · rintro ⟨h1, h2, h3, h4, h5, h6, h7, h8, h9, hcount⟩
    exact ⟨⟨⟨⟨⟨⟨⟨⟨h1, h2⟩, by omega⟩, by omega⟩, h5⟩, h6⟩, h7⟩, h8⟩, h9⟩

/-- Settles O13: `region_bounds` one way, and the law of each region the other way. -/
theorem regionIsDecidedByTheBoundaries : Obligations.RegionIsDecidedByTheBoundaries := by
  unfold Obligations.RegionIsDecidedByTheBoundaries
  intro c a hc
  have hb := region_bounds c a
  refine ⟨⟨fun hr => ?_, region_ram⟩, ⟨fun hr => ?_, fun h => region_free h.1 h.2⟩,
    ⟨fun hr => ?_, fun h => region_io hc h.1 h.2⟩, ⟨fun hr => ?_, fun h => region_bank hc h.1 h.2⟩,
    ⟨fun hr => ?_, region_rom hc⟩⟩ <;> simpa only [hr] using hb

/-- Settles O16: every sub-row is guarded by its region. -/
theorem subRowOutsideItsRegionIsRefused : Obligations.SubRowOutsideItsRegionIsRefused := by
  unfold Obligations.SubRowOutsideItsRegionIsRefused
  intro s i r a hi hr
  cases i <;> cases hi <;> exact if_neg hr

/-! ## The protection inputs (41_protected_ram.md rule R153) -/

theorem State.answerProtActive_of_cons {p : Bool} {ps : List Bool} (h : s.answers.protActive = p :: ps) :
    s.answerProtActive = p := by
  simp [State.answerProtActive, h]

theorem State.answerProtMask_of_cons {m : Addr} {ms : List Addr} (h : s.answers.protMask = m :: ms) :
    s.afterProtActive.answerProtMask = m := by
  simp [State.answerProtMask, h]

/-- Sampling listed answers uses one of each list and draws nothing. -/
theorem State.sampled_of_cons {p : Bool} {ps : List Bool} {m : Addr} {ms : List Addr}
    (hp : s.answers.protActive = p :: ps) (hm : s.answers.protMask = m :: ms) :
    s.sampled = { s with answers := { s.answers with protActive := ps, protMask := ms } } := by
  simp [State.sampled, State.afterProtMask, State.afterProtActive, drawnAfter, hp, hm]

/-- Settles O19: the test is on the two listed answers, and either outcome runs after they have been used. -/
theorem protectionIsSampledOncePerWrite : Obligations.ProtectionIsSampledOncePerWrite := by
  unfold Obligations.ProtectionIsSampledOncePerWrite
  intro s a d p ps m ms ha hp hm
  have hexec := exec_busWrite_of_ram d (region_ram ha)
  have hp' := State.answerProtActive_of_cons hp
  have hm' := State.answerProtMask_of_cons hm
  by_cases h : p = true ∧ a &&& m = m
  · have hw := writeRam_of_protected d (s := s) (a := a) (isProtected_eq_true.mpr (by rwa [hp', hm']))
    rw [hm', State.sampled_of_cons hp hm] at hw
    refine ⟨_, hexec.trans hw, ?_, ?_, rfl, rfl⟩
    · rw [if_pos h]
      rfl
    · rw [if_pos h]
      rfl
  · have hw := writeRam_of_unprotected d (s := s) (a := a)
      (Bool.eq_false_iff.mpr (isProtected_eq_true.not.mpr (by rwa [hp', hm'])))
    rw [State.sampled_of_cons hp hm] at hw
    refine ⟨_, hexec.trans hw, ?_, ?_, rfl, rfl⟩
    · rw [if_neg h]
      exact State.storeRam_ramByte_self _ _ _
    · rw [if_neg h]
      exact (List.append_nil _).symm

/-! ## The controller's window (44_bus_router.md rules R225 and R226) -/

theorem State.answerCtlRead_of_cons {v : Byte} {vs : List Byte} (h : s.answers.ctlRead = v :: vs) : s.answerCtlRead = v := by
  simp [State.answerCtlRead, h]

theorem State.answerCtlRead_of_nil (h : s.answers.ctlRead = []) : s.answerCtlRead = Config.freeValue 8 s.drawn := by
  simp [State.answerCtlRead, h]

theorem State.afterCtlRead_of_cons {v : Byte} {vs : List Byte} (h : s.answers.ctlRead = v :: vs) :
    s.afterCtlRead = { s with answers := { s.answers with ctlRead := vs } } := by
  simp [State.afterCtlRead, drawnAfter, h]

theorem State.afterCtlRead_of_nil (h : s.answers.ctlRead = []) : s.afterCtlRead = { s with drawn := s.drawn + 1 } := by
  calc s.afterCtlRead
      = { s with answers := { s.answers with ctlRead := [] }, drawn := s.drawn + 1 } := by
        simp [State.afterCtlRead, drawnAfter, h]
    _ = { s with drawn := s.drawn + 1 } := by rw [← h]

/-- Settles O22: both forms of the read ask the controller, whose answer is listed or free. -/
theorem ioReadIsForwarded : Obligations.IoReadIsForwarded := by
  unfold Obligations.IoReadIsForwarded
  intro s a i hc hlo hhi hi
  have hr := region_io hc hlo hhi
  have hexec : exec i s = exec (.busRead a) s := by
    obtain rfl | rfl := hi
    · rfl
    · exact exec_subRow_eq_transaction rfl hr
  rw [hexec, exec_busRead_of_io hr]
  refine ⟨fun v vs hans => ?_, fun hans => ?_⟩
  · rw [State.answerCtlRead_of_cons hans, State.afterCtlRead_of_cons (s := s.emit _) hans]
    rfl
  · rw [State.answerCtlRead_of_nil hans, State.afterCtlRead_of_nil (s := s.emit _) hans]
    rfl

/-- Settles O23: both forms of the write emit it and store nothing. -/
theorem ioWriteIsForwarded : Obligations.IoWriteIsForwarded := by
  unfold Obligations.IoWriteIsForwarded
  intro s a d i hc hlo hhi hi
  have hr := region_io hc hlo hhi
  obtain rfl | rfl := hi
  · exact exec_busWrite_of_io d hr
  · exact (exec_subRow_eq_transaction rfl hr).trans (exec_busWrite_of_io d hr)

/-! ## The two ROM regions -/

/-- Settles O25: the index of the fixed ROM is inside the image and does not depend on the bank. -/
theorem romReadReturnsTheFixedByte : Obligations.RomReadReturnsTheFixedByte := by
  unfold Obligations.RomReadReturnsTheFixedByte
  intro s a hc hlo
  have hr := region_rom hc hlo
  obtain ⟨b, hb⟩ := s.cfg.imageByte_eq_some (State.romIndex_lt_imageSize hc hr)
  refine ⟨b, hb, fun n => ?_⟩
  have hread : exec (.busRead a) (s.setBank n) = .next ((s.setBank n).setResult (some b)) :=
    exec_busRead_of_byteAt ((State.byteAt_of_rom (s := s.setBank n) hr).trans hb)
  exact ⟨(exec_subRow_eq_transaction rfl (s := s.setBank n) hr).trans hread, hread⟩

/-- Settles O26: a write of either region only ends. -/
theorem writesToRomChangeNothing : Obligations.WritesToRomChangeNothing := by
  unfold Obligations.WritesToRomChangeNothing
  intro s a d hc hlo
  have hbank (h : a.toNat < s.cfg.romBase) : region s.cfg a = .bank := region_bank hc hlo h
  have hrom (h : s.cfg.romBase ≤ a.toNat) : region s.cfg a = .rom := region_rom hc h
  have hwrite : exec (.busWrite a d) s = .next (s.setResult none) :=
    exec_busWrite_of_image d ((lt_or_ge a.toNat s.cfg.romBase).imp hbank hrom)
  exact ⟨hwrite, fun h => (exec_subRow_eq_transaction rfl (hbank h)).trans hwrite,
    fun h => (exec_subRow_eq_transaction rfl (hrom h)).trans hwrite⟩

/-- A masked index fits the index's width, so masking it again changes nothing. -/
theorem maskedBank_ofNat (c : Config) (d : Byte) : maskedBank c (BitVec.ofNat 8 (d.toNat &&& c.bankMask)) = maskedBank c d := by
  have hlt : d.toNat &&& c.bankMask < 2 ^ 8 := Nat.and_le_left.trans_lt d.isLt
  rw [maskedBank, BitVec.toNat_ofNat, Nat.mod_eq_of_lt hlt]
  exact maskedBank_and_bankMask c d

/-- Settles O28: the mask is idempotent, and every index up to it is a slice of the image. -/
theorem bankSelectIsIdempotentUnderMasking : Obligations.BankSelectIsIdempotentUnderMasking := by
  unfold Obligations.BankSelectIsIdempotentUnderMasking
  intro s d hc
  have hf := Config.facts hc
  have hle : maskedBank s.cfg d ≤ s.cfg.bankMask := Nat.and_le_right
  have hslice : (maskedBank s.cfg d + 1) * s.cfg.bankSize ≤ (s.cfg.bankMask + 1) * s.cfg.bankSize :=
    Nat.mul_le_mul_right _ (Nat.succ_le_succ hle)
  refine ⟨by rw [exec_bankSelect_eq, exec_bankSelect_eq, maskedBank_ofNat], _, exec_bankSelect_eq d s, hle,
    hle.trans_lt hf.mask_lt_count, ?_⟩
  exact (Nat.add_le_add_left hslice _).trans hf.banks_in_image

/-! ## Sound -/

/-- Settles O40: the events of the write, by the sound case. -/
theorem soundCtrlWriteByCase : Obligations.SoundCtrlWriteByCase := by
  unfold Obligations.SoundCtrlWriteByCase
  intro s b
  rw [exec_sndCtrlWrite_eq]
  cases hp : s.cfg.soundPresent with
  | false => rw [soundCase_of_absent hp]; rfl
  | true =>
    cases hv : s.cfg.soundVariant with
    | primary => rw [soundCase_of_primary hp hv]; rfl
    | legacy => rw [soundCase_of_legacy hp hv]; rfl

/-- Settles O43: the events of the strobe, by the sound case. -/
theorem soundStrobeWriteByCase : Obligations.SoundStrobeWriteByCase := by
  unfold Obligations.SoundStrobeWriteByCase
  intro s b
  rw [exec_sndStrobeWrite_eq]
  cases hp : s.cfg.soundPresent with
  | false => rw [soundCase_of_absent hp]; rfl
  | true =>
    cases hv : s.cfg.soundVariant with
    | primary => rw [soundCase_of_primary hp hv]; rfl
    | legacy => rw [soundCase_of_legacy hp hv]; rfl

/-- Settles O44: only case P has a reply. -/
theorem soundReplyAssertsTheFastLine : Obligations.SoundReplyAssertsTheFastLine := by
  unfold Obligations.SoundReplyAssertsTheFastLine
  exact fun s => ⟨fun hp hv => exec_sndReply_of_primary (soundCase_of_primary hp hv),
    fun h => exec_sndReply_of_not_primary (soundCase_ne_primary h)⟩

/-! ## RESET and power-on -/

theorem drawnDigits_getElem? {k n j : Nat} (hj : j < n) : (drawnDigits k n)[j]? = some (Config.freeValue 16 (k + j)) := by
  simp [drawnDigits, hj]

/-- Settles O50: the state after RESET, with both memories empty, so that `RAM` reads 0 and `FREE` the new draw. -/
theorem resetClearsAndDraws : Obligations.ResetClearsAndDraws := by
  unfold Obligations.ResetClearsAndDraws
  exact fun s => ⟨_, exec_reset_eq s, fun o => State.ramByte_of_unlisted rfl, rfl, rfl, rfl, rfl, rfl, rfl,
    drawnDigits_length _ _, fun k hk => drawnDigits_getElem? hk, rfl, rfl, fun o => State.freeByte_of_unlisted rfl,
    rfl, rfl, rfl, rfl, rfl, rfl, rfl, rfl⟩

theorem framePeriod_mul_frameHz : framePeriod * frameHz = unitsPerSecond := by decide

theorem irqPeriod_mul_irqHz : irqPeriod * irqHz = unitsPerSecond := by decide

/-- Settles O51: the power-on state of a well-formed configuration, field by field. -/
theorem powerOnState : Obligations.PowerOnState := by
  unfold Obligations.PowerOnState
  exact ⟨rfl, fun c hc => ⟨State.initial c, if_pos hc, rfl, fun o => State.ramByte_of_unlisted rfl,
    fun o => State.freeByte_of_unlisted rfl, rfl, rfl, rfl, rfl, rfl, rfl, rfl, framePeriod_mul_frameHz,
    irqPeriod_mul_irqHz⟩⟩

end Sys2Proof.Machine
end
